-- ==== Sys2Proof/Word.lean ====
section
/-! DEFINITION. The words of gamma_rgb_blender: the widths of 00_scope.md rule R5. Every value is an unsigned bit vector whose
bit 0 is the least significant (rule R6); nothing in the block is signed. -/

namespace Sys2Proof

/-- One 8-bit colour channel (`CH_W` = 8, R5). -/
abbrev Channel := BitVec 8

/-- A packed colour: red 23:16, green 15:8, blue 7:0 (10_state.md R20; `COLOR_W` = 24). -/
abbrev Color := BitVec 24

/-- A table entry (`ENTRY_W` = 9, R5: the value 256 is stored, R23). -/
abbrev Entry := BitVec 9

/-- An index of either table (`IDX_W` = 8, R5). -/
abbrev Index := BitVec 8

/-- A blend weight, 0..131071 (`WEIGHT_W` = 17, R5, R63). -/
abbrev Weight := BitVec 17

/-- A right-shift amount, 0..31 (`SHIFT_W` = 5, R5, R63). -/
abbrev Shift := BitVec 5

/-- The accumulator of one lane (`ACC_W` = 27, R5, 41_blend.md R100). -/
abbrev Acc := BitVec 27

/-- A request word `REQ` (`REQ_W` = 89, 30_encoding.md R61). -/
abbrev ReqWord := BitVec 89

/-- A response word `RSP` (`RSP_W` = 27, 30_encoding.md R66). -/
abbrev RspWord := BitVec 27

/-- One of the two lookup tables: 256 entries, index 0 first (`TAB_N`, R5, 20_memory.md R40). -/
structure Table where
  entries : List Entry
  size : entries.length = 256
deriving DecidableEq, Repr

end Sys2Proof
end

