-- ==== Sys2Proof/Config.lean ====
section
/-! DEFINITION. What the spec leaves to an implementation, as free values: constants with no body, of which nothing can be proved
beyond the limits the spec states. Each is applied to the number of the clock edge at which it is drawn (`State.edge`), so that
two draws need not agree. -/

namespace Sys2Proof

/-- `T_INIT - 1` for an `INIT` accepted at the given edge (00_scope.md R5: `T_INIT` is OPEN, an integer at least 1;
70_reset_and_hazards.md R140: it may vary from one request to the next). DESIGN CHOICE, log entry 3. -/
opaque Config.initWait : Nat → Nat

/-- `T_MIX - 1` for a `MIXR`, a `MIXG` or a reserved operation accepted at the given edge (R5, R140). DESIGN CHOICE, log entry 3. -/
opaque Config.mixWait : Nat → Nat

/-- What the response payload ports carry before the given edge while `rsp_valid` = 0: "no meaning" (30_encoding.md R67), any value
(93_implementation_defined.md U6). DESIGN CHOICE, log entry 10. -/
opaque Config.idlePayload : Nat → RspWord

end Sys2Proof
end

