-- ==== Sys2Proof/Syntax.lean ====
section
/-! DEFINITION. The operations of the block, one constructor per row of spec/opcode_table.json (30_encoding.md R62). The operands
stand in the order of the textual syntax (R71): `c1, c2, w1, w2, s`. `INIT` and the reserved code carry the 87 bits that the
block ignores (R64), so that an operation and its request word say the same. -/

namespace Sys2Proof

inductive Instr where
  /-- `MIXR c1, c2, w1, w2, s` (`op` = 0): raw blend, 41_blend.md R93. -/
  | mixr (c1 c2 : Color) (w1 w2 : Weight) (s : Shift)
  /-- `MIXG c1, c2, w1, w2, s` (`op` = 1): gamma-corrected blend, 41_blend.md R94. -/
  | mixg (c1 c2 : Color) (w1 w2 : Weight) (s : Shift)
  /-- `INIT` (`op` = 2): load both tables, 40_init.md R83; the bits 86:0 are ignored (R64). -/
  | init (ignored : BitVec 87)
  /-- `RSVD` (`op` = 3): the reserved operation, 41_blend.md R98; the bits 86:0 are ignored (R64). -/
  | rsvd (ignored : BitVec 87)
deriving DecidableEq, Repr

end Sys2Proof
end

