-- ==== Sys2Proof/WellFormed.lean ====
section
/-! DEFINITION. Which programs spell requests. Every value of type `Instr` is a legal request (30_encoding.md R75: no value of a field
is illegal), because its fields have the widths of R5. What can be ill-formed is a line of a program, whose operands are plain
numbers: a weight above 131071, a shift above 31, a colour above 24 bits or a mode that is neither 0 nor 1 spells no request
(R63, R71, R72; 93_implementation_defined.md U9), and is never reduced to the field's width. -/

namespace Sys2Proof

/-- A line of a program (30_encoding.md R71) or a pseudo-operation (R72), its operands the numbers that are written. -/
inductive SourceLine where
  | mixr (c1 c2 w1 w2 s : Nat)
  | mixg (c1 c2 w1 w2 s : Nat)
  | init
  | rsvd
  /-- `RESET`: `rst` is asserted for one clock edge; not a request (R71). -/
  | reset
  /-- `MIX c1, c2, w1, w2, s, g` (R72). -/
  | mix (c1 c2 w1 w2 s g : Nat)
  /-- `AVG c1, c2, g` (R72). -/
  | avg (c1 c2 g : Nat)
deriving DecidableEq, Repr

/-- Why a line spells no request (93_implementation_defined.md U9). -/
inductive SourceError where
  /-- A colour that does not fit 24 bits (R71). -/
  | colorTooWide
  /-- A weight above 131071 (R63). -/
  | weightTooWide
  /-- A shift above 31 (R63). -/
  | shiftTooWide
  /-- A mode operand that is neither 0 nor 1 (R72). -/
  | badMode
deriving DecidableEq, Repr

/-- What a line makes the host do. -/
inductive HostAction where
  /-- Assert `rst` for one clock edge (R71). -/
  | reset
  /-- Present a request (R71). -/
  | request (i : Instr)
deriving DecidableEq, Repr

/-- A colour is a 24-bit value (R20, R71). -/
def colorFits (c : Nat) : Bool := c < 2 ^ 24

/-- A weight is at most 131071 (R63). -/
def weightFits (w : Nat) : Bool := w ≤ 131071

/-- A shift is at most 31 (R63). -/
def shiftFits (s : Nat) : Bool := s ≤ 31

/-- A mode is 0 or 1 (R72). -/
def modeFits (g : Nat) : Bool := g ≤ 1

/-- The first operand of a blend that its field cannot hold, in the order colours, weights, shift. -/
def blendError (c1 c2 w1 w2 s : Nat) : Option SourceError :=
  if !(colorFits c1 && colorFits c2) then some .colorTooWide
  else if !(weightFits w1 && weightFits w2) then some .weightTooWide
  else if !shiftFits s then some .shiftTooWide
  else none

/-- What is wrong with a line, if anything (R63, R71, R72; U9). -/
def SourceLine.error? : SourceLine → Option SourceError
  | .mixr c1 c2 w1 w2 s => blendError c1 c2 w1 w2 s
  | .mixg c1 c2 w1 w2 s => blendError c1 c2 w1 w2 s
  | .init => none
  | .rsvd => none
  | .reset => none
  | .mix c1 c2 w1 w2 s g => if modeFits g then blendError c1 c2 w1 w2 s else some .badMode
  | .avg c1 c2 g => if modeFits g then blendError c1 c2 128 128 8 else some .badMode

/-- A line whose operands all fit. -/
def SourceLine.wellFormed (l : SourceLine) : Bool := l.error?.isNone

end Sys2Proof
end

