-- ==== Sys2Proof/Decode.lean ====
section
/-! DEFINITION. The request word and its decoder (30_encoding.md R61, R62, R75), the encoder written from the same table, the
decoder of the host's numbering, and the assembler of program lines (R71, R72). -/

namespace Sys2Proof

/-- `REQ[86:82]` (R61). -/
def reqShift (w : ReqWord) : Shift := w.extractLsb' 82 5

/-- `REQ[81:65]` (R61). -/
def reqWeight1 (w : ReqWord) : Weight := w.extractLsb' 65 17

/-- `REQ[64:48]` (R61). -/
def reqWeight2 (w : ReqWord) : Weight := w.extractLsb' 48 17

/-- `REQ[47:24]` (R61). -/
def reqColor1 (w : ReqWord) : Color := w.extractLsb' 24 24

/-- `REQ[23:0]` (R61). -/
def reqColor2 (w : ReqWord) : Color := w.extractLsb' 0 24

/-- `REQ[86:0]`, the bits that `INIT` and the reserved code ignore (R64). -/
def reqIgnored (w : ReqWord) : BitVec 87 := w.extractLsb' 0 87

/-- `REQ[88:87]` (R61). -/
def reqOp (w : ReqWord) : BitVec 2 := w.extractLsb' 87 2

/-- `REQ = {op, shift, weight1, weight2, color1, color2}` (R61). -/
def packRequest (op : BitVec 2) (s : Shift) (w1 w2 : Weight) (c1 c2 : Color) : ReqWord :=
  op ++ s ++ w1 ++ w2 ++ c1 ++ c2

/-- The operation a request word selects, by `op[1]` and `op[0]` alone (R62, R75): for `op[1]` = 0 a blend whose `op[0]` is the source's
`gammaCorrected`; otherwise `INIT` and the reserved code. -/
def decodeReq (w : ReqWord) : Instr :=
  match w.getLsbD 88, w.getLsbD 87 with
  | false, false => .mixr (reqColor1 w) (reqColor2 w) (reqWeight1 w) (reqWeight2 w) (reqShift w)
  | false, true => .mixg (reqColor1 w) (reqColor2 w) (reqWeight1 w) (reqWeight2 w) (reqShift w)
  | true, false => .init (reqIgnored w)
  | true, true => .rsvd (reqIgnored w)

/-- The code of an operation (R62). -/
def opcodeOf : Instr → BitVec 2
  | .mixr _ _ _ _ _ => 0#2
  | .mixg _ _ _ _ _ => 1#2
  | .init _ => 2#2
  | .rsvd _ => 3#2

/-- The request word of an operation (R61, R62). -/
def encode : Instr → ReqWord
  | .mixr c1 c2 w1 w2 s => packRequest 0#2 s w1 w2 c1 c2
  | .mixg c1 c2 w1 w2 s => packRequest 1#2 s w1 w2 c1 c2
  | .init ignored => 2#2 ++ ignored
  | .rsvd ignored => 3#2 ++ ignored

/-- Why a number is no request word. -/
inductive DecodeError where
  /-- It has bits above bit 88, which no port carries (R60, R65). -/
  | tooWide
deriving DecidableEq, Repr

/-- Decoding of any number: a request word is one word of 89 bits (R65), and every one of the 2^89 decodes (R75). -/
def decodeNat (w : Nat) : Except DecodeError Instr :=
  if w < 2 ^ 89 then .ok (decodeReq (BitVec.ofNat 89 w)) else .error .tooWide

/-- The operation of the word whose bits, numbered as spec/opcode_table.json numbers them, are `w`; none where a bit above bit 88 is
set (log entry 13). The request is one word, so the number of bits given for the row is not needed. -/
def decodeTableWord (_nbits w : Nat) : Option Instr := (decodeNat w).toOption

/-- A blend request from numbers that fit their fields. -/
def blendOf (gamma : Bool) (c1 c2 w1 w2 s : Nat) : Instr :=
  if gamma then .mixg (BitVec.ofNat 24 c1) (BitVec.ofNat 24 c2) (BitVec.ofNat 17 w1) (BitVec.ofNat 17 w2) (BitVec.ofNat 5 s)
  else .mixr (BitVec.ofNat 24 c1) (BitVec.ofNat 24 c2) (BitVec.ofNat 17 w1) (BitVec.ofNat 17 w2) (BitVec.ofNat 5 s)

/-- What a well-formed line stands for (R71, R72): `INIT` and `RSVD` are written with all ignored fields zero, `MIX` chooses the mode by
its last operand, and `AVG` is `MIX` with weights 128, 128 and shift 8. -/
def expand : SourceLine → HostAction
  | .mixr c1 c2 w1 w2 s => .request (blendOf false c1 c2 w1 w2 s)
  | .mixg c1 c2 w1 w2 s => .request (blendOf true c1 c2 w1 w2 s)
  | .init => .request (.init 0#87)
  | .rsvd => .request (.rsvd 0#87)
  | .reset => .reset
  | .mix c1 c2 w1 w2 s g => .request (blendOf (g == 1) c1 c2 w1 w2 s)
  | .avg c1 c2 g => .request (blendOf (g == 1) c1 c2 128 128 8)

/-- The action of a program line, or the reason it spells none (R71, R72; 93_implementation_defined.md U9: an operand that its field
cannot hold is refused by name and never reduced). -/
def assemble (l : SourceLine) : Except SourceError HostAction :=
  match l.error? with
  | some e => .error e
  | none => .ok (expand l)

end Sys2Proof
end

