-- ==== Sys2Proof/Machine/State.lean ====
section
/-! DEFINITION. The state of the block and of its two ports, as plain data: the three items of 10_state.md R21, the interface state
of R31, and, marked as the model's own, what the host does and has received. -/

namespace Sys2Proof.Machine

/-- The fields of a response (30_encoding.md R66). -/
structure Response where
  /-- The request's operation code was the reserved one (41_blend.md R98). -/
  ill : Bool
  /-- A gamma-corrected blend executed with `inited` = 0 (R96). -/
  uninit : Bool
  /-- Some channel's shifted accumulator exceeded 255 (R95). -/
  ovf : Bool
  color : Color
deriving DecidableEq, Repr

/-- The values of the input ports at one rising edge of `clk` (30_encoding.md R60). -/
structure PortIn where
  rst : Bool
  reqValid : Bool
  reqOp : BitVec 2
  reqShift : Shift
  reqWeight1 : Weight
  reqWeight2 : Weight
  reqColor1 : Color
  reqColor2 : Color
  rspReady : Bool
deriving DecidableEq, Repr

/-- The values of the output ports before one rising edge of `clk` (30_encoding.md R60). -/
structure PortOut where
  reqReady : Bool
  rspValid : Bool
  rspIll : Bool
  rspUninit : Bool
  rspOvf : Bool
  rspColor : Color
deriving DecidableEq, Repr

/-- The interface state (10_state.md R31): between the acceptance of a request and the acceptance of its response the block holds
the request being executed and then the response waiting to be taken. -/
inductive Interface where
  /-- Not busy. -/
  | idle
  /-- Busy with `req`. Its response is determined (20_memory.md R46) and not yet presented; `age` edges have passed since the edge
  numbered `draw` that accepted it. -/
  | executing (req : Instr) (rsp : Response) (draw age : Nat)
  /-- `rsp_valid` = 1: the response waits to be taken (30_encoding.md R70). -/
  | responding (rsp : Response)
deriving DecidableEq, Repr

structure State where
  /-- The gamma table `GT` (10_state.md R22). -/
  gt : Table
  /-- The inverse gamma table `IGT` (10_state.md R23). -/
  igt : Table
  /-- Whether `INIT` has executed since the last reset (10_state.md R24). -/
  inited : Bool
  /-- The interface state (10_state.md R31). -/
  iface : Interface
  /-- The MODEL's own: the request word the host has raised and the block has not accepted (30_encoding.md R68; log entry 9). -/
  presented : Option ReqWord
  /-- The MODEL's own: the input ports at the edges to come, oldest first; after the last one every edge is quiet (log entry 6). -/
  script : List PortIn
  /-- The MODEL's own: the response words the host has accepted, oldest first (70_reset_and_hazards.md R138; log entry 8). -/
  taken : List RspWord
  /-- The MODEL's own: the number of rising edges passed, which the free values of Config are applied to (log entry 7). -/
  edge : Nat
deriving DecidableEq, Repr

/-- Why the machine stops with a fault: never. No operation raises an exception, traps or refuses to answer (60_exceptions.md R110), so
there is no constructor. -/
inductive Fault where
deriving DecidableEq, Repr

/-- Why a step has no meaning. -/
inductive Refusal where
  /-- Raised by an arm of `exec` for an operation without a meaning; safe. No arm raises it. -/
  | notModelled (mnemonic : String)
  /-- Raised by `step` at an edge where the host has dropped `req_valid` before its request was accepted: "the model gives such a host
  no move" (30_encoding.md R68). Safe: the spec gives such a host no behaviour of the block. -/
  | requestWithdrawn
  /-- Raised by `step` at an edge where the host has changed the payload of a request that was not accepted (30_encoding.md R68). Safe, for
  the same reason. -/
  | requestAltered
deriving DecidableEq, Repr

/-- The zero-filled table of the cleared configuration (10_state.md R32, R33). -/
def zeroTable : Table := ⟨List.replicate 256 0#9, List.length_replicate⟩

/-- The state right after reset (10_state.md R33, 70_reset_and_hazards.md R130): both tables zero, `inited` = 0, not busy, no request
held, no response pending. The model's own fields: no edge scripted, no response taken, edge number 0 (log entries 6, 7, 8). -/
def State.reset : State where
  gt := zeroTable
  igt := zeroTable
  inited := false
  iface := .idle
  presented := none
  script := []
  taken := []
  edge := 0

end Sys2Proof.Machine
end

