-- ==== Sys2Proof/Machine/Rom.lean ====
section
/-! DEFINITION. The two constant tables inside the block (40_init.md R84, R85, R88): exactly the integers the spec prints. -/

namespace Sys2Proof.Machine

/-- The numbers of 40_init.md R84, sixteen a row. -/
def gammaRomRows : List (List Nat) :=
  [[0, 0, 0, 0, 0, 0, 0, 0, 0, 0, 0, 0, 0, 0, 0, 0],
   [1, 1, 1, 1, 1, 1, 1, 1, 1, 2, 2, 2, 2, 2, 2, 2],
   [3, 3, 3, 3, 3, 4, 4, 4, 4, 5, 5, 5, 5, 6, 6, 6],
   [6, 7, 7, 7, 8, 8, 8, 9, 9, 9, 10, 10, 11, 11, 11, 12],
   [12, 13, 13, 13, 14, 14, 15, 15, 16, 16, 17, 17, 18, 18, 19, 19],
   [20, 20, 21, 21, 22, 23, 23, 24, 24, 25, 26, 26, 27, 28, 28, 29],
   [30, 30, 31, 32, 32, 33, 34, 35, 35, 36, 37, 38, 38, 39, 40, 41],
   [42, 42, 43, 44, 45, 46, 47, 47, 48, 49, 50, 51, 52, 53, 54, 55],
   [56, 57, 58, 59, 60, 61, 62, 63, 64, 65, 66, 67, 68, 69, 70, 71],
   [72, 73, 74, 76, 77, 78, 79, 80, 81, 82, 84, 85, 86, 87, 89, 90],
   [91, 92, 94, 95, 96, 97, 99, 100, 101, 103, 104, 105, 107, 108, 109, 111],
   [112, 114, 115, 117, 118, 119, 121, 122, 124, 125, 127, 128, 130, 131, 133, 134],
   [136, 138, 139, 141, 142, 144, 145, 147, 149, 150, 152, 154, 155, 157, 159, 160],
   [162, 164, 166, 167, 169, 171, 173, 174, 176, 178, 180, 182, 183, 185, 187, 189],
   [191, 193, 195, 197, 198, 200, 202, 204, 206, 208, 210, 212, 214, 216, 218, 220],
   [222, 224, 226, 228, 230, 232, 235, 237, 239, 241, 243, 245, 247, 249, 252, 254]]

/-- The numbers of 40_init.md R85, sixteen a row. -/
def igammaRomRows : List (List Nat) :=
  [[0, 21, 28, 34, 39, 43, 46, 50, 53, 56, 59, 61, 64, 66, 68, 70],
   [73, 75, 77, 78, 80, 82, 84, 86, 87, 89, 91, 92, 94, 95, 97, 98],
   [99, 101, 102, 104, 105, 106, 108, 109, 110, 111, 113, 114, 115, 116, 117, 118],
   [120, 121, 122, 123, 124, 125, 126, 127, 128, 129, 130, 131, 132, 133, 134, 135],
   [136, 137, 138, 139, 140, 141, 142, 143, 144, 145, 146, 147, 147, 148, 149, 150],
   [151, 152, 153, 153, 154, 155, 156, 157, 158, 158, 159, 160, 161, 162, 162, 163],
   [164, 165, 165, 166, 167, 168, 168, 169, 170, 171, 171, 172, 173, 174, 174, 175],
   [176, 177, 177, 178, 179, 179, 180, 181, 181, 182, 183, 183, 184, 185, 185, 186],
   [187, 187, 188, 189, 189, 190, 191, 191, 192, 193, 193, 194, 195, 195, 196, 196],
   [197, 198, 198, 199, 200, 200, 201, 201, 202, 203, 203, 204, 204, 205, 206, 206],
   [207, 207, 208, 209, 209, 210, 210, 211, 211, 212, 213, 213, 214, 214, 215, 215],
   [216, 216, 217, 218, 218, 219, 219, 220, 220, 221, 221, 222, 222, 223, 224, 224],
   [225, 225, 226, 226, 227, 227, 228, 228, 229, 229, 230, 230, 231, 231, 232, 232],
   [233, 233, 234, 234, 235, 235, 236, 236, 237, 237, 238, 238, 239, 239, 240, 240],
   [241, 241, 242, 242, 243, 243, 244, 244, 245, 245, 246, 246, 247, 247, 248, 248],
   [249, 249, 250, 250, 250, 251, 251, 252, 252, 253, 253, 254, 254, 255, 255, 256]]

/-- A table from the rows of a printed one. -/
def tableOfRows (rows : List (List Nat)) (h : (rows.map List.length).sum = 256) : Table :=
  ⟨rows.flatten.map (BitVec.ofNat 9), by rw [List.length_map, List.length_flatten, h]⟩

/-- `GAMMA_ROM` (40_init.md R84). -/
def gammaRom : Table := tableOfRows gammaRomRows (by decide)

/-- `IGAMMA_ROM` (40_init.md R85); its last entry is 256. -/
def igammaRom : Table := tableOfRows igammaRomRows (by decide)

end Sys2Proof.Machine
end

