-- ==== Sys2Proof/Machine/Operands.lean ====
section
/-! DEFINITION. The operand and result forms: the channels of a packed colour (10_state.md R20), the entry of a table
(20_memory.md R44, R51), the request word of the input ports (30_encoding.md R61) and the response word (R66). -/

namespace Sys2Proof.Machine

/-- The three lanes of a blend (41_blend.md R103). -/
inductive Lane where
  | R
  | G
  | B
deriving DecidableEq, Repr

/-- `chan(c, k)`: red is `c[23:16]`, green `c[15:8]`, blue `c[7:0]` (10_state.md R20). -/
def chan (c : Color) : Lane → Channel
  | .R => c.extractLsb' 16 8
  | .G => c.extractLsb' 8 8
  | .B => c.extractLsb' 0 8

/-- `pack(r, g, b) = (r << 16) | (g << 8) | b` (R20). -/
def pack (r g b : Channel) : Color := r ++ g ++ b

/-- The read of one whole entry (20_memory.md R44); an 8-bit index is always in 0..255 (R43, R45). -/
def readEntry (t : Table) (i : Index) : Entry := t.entries[i.toNat]'(t.size ▸ i.isLt)

/-- `REQ`, the request payload ports as one word (30_encoding.md R61). -/
def requestWord (p : PortIn) : ReqWord :=
  packRequest p.reqOp p.reqShift p.reqWeight1 p.reqWeight2 p.reqColor1 p.reqColor2

/-- `RSP = {ill, uninit, ovf, color}` (30_encoding.md R66). -/
def responseWord (r : Response) : RspWord :=
  BitVec.ofBool r.ill ++ BitVec.ofBool r.uninit ++ BitVec.ofBool r.ovf ++ r.color

/-- An edge at which the host does nothing: no reset, no request, no response taken. -/
def quietEdge : PortIn where
  rst := false
  reqValid := false
  reqOp := 0#2
  reqShift := 0#5
  reqWeight1 := 0#17
  reqWeight2 := 0#17
  reqColor1 := 0#24
  reqColor2 := 0#24
  rspReady := false

/-- An edge at which the host presents the request word `w` on the payload ports (30_encoding.md R60, R61). -/
def requestEdge (w : ReqWord) : PortIn where
  rst := false
  reqValid := true
  reqOp := reqOp w
  reqShift := reqShift w
  reqWeight1 := reqWeight1 w
  reqWeight2 := reqWeight2 w
  reqColor1 := reqColor1 w
  reqColor2 := reqColor2 w
  rspReady := false

/-- The edge of a `RESET` line: `rst` = 1 (30_encoding.md R71). -/
def resetPulse : PortIn := { quietEdge with rst := true }

end Sys2Proof.Machine
end

