-- ==== Sys2Proof/Machine/Flags.lean ====
section
/-! DEFINITION. The arithmetic of one lane, its narrowing, and the three response flags (41_blend.md R93 to R96, R98, R100, R101). -/

namespace Sys2Proof.Machine

/-- `acc_k = x1*w1 + x2*w2` in 27 bits, all operands zero-extended (30_encoding.md R63, 41_blend.md R100). -/
def accumulate (x1 x2 : Entry) (w1 w2 : Weight) : Acc :=
  x1.setWidth 27 * w1.setWidth 27 + x2.setWidth 27 * w2.setWidth 27

/-- `q_k = acc_k >> s`, the floor of the division by `2^s` (41_blend.md R101). -/
def normalise (acc : Acc) (s : Shift) : Acc := acc >>> s.toNat

/-- `min(v, 255)` in 8 bits: the saturating narrowing (41_blend.md R93, R94). -/
def saturate {n : Nat} (v : BitVec n) : BitVec 8 :=
  if 255 < v.toNat then 255#8 else v.setWidth 8

/-- `ovf_k = (q_k > 255)` (41_blend.md R95). -/
def exceeds (q : Acc) : Bool := 255 < q.toNat

/-- `uninit` of a gamma-corrected blend: `inited` = 0 (41_blend.md R96). -/
def uninitFlag (inited : Bool) : Bool := !inited

end Sys2Proof.Machine
end

