-- ==== Sys2Proof/Machine/Ops.lean ====
section
/-! DEFINITION. The named operations on the state. There is no exception to take and none to return from (60_exceptions.md R110, R115,
R116): what an operation does beside writing the tables is to determine its response. -/

namespace Sys2Proof.Machine

/-- Writes both tables and `inited` together (20_memory.md R44: all writes of one operation take effect together). -/
def State.withTables (s : State) (gt igt : Table) (inited : Bool) : State :=
  { s with gt := gt, igt := igt, inited := inited }

def State.withInterface (s : State) (x : Interface) : State := { s with iface := x }

def State.withPresented (s : State) (p : Option ReqWord) : State := { s with presented := p }

/-- The clock passes the edge at the head of the script. -/
def State.pastEdge (s : State) : State := { s with script := s.script.tail, edge := s.edge + 1 }

/-- The host receives a response word (70_reset_and_hazards.md R138). -/
def State.record (s : State) (w : RspWord) : State := { s with taken := s.taken ++ [w] }

/-- The block is busy with `req`, whose response is now determined (10_state.md R31, 20_memory.md R46). Every operation ends in this
(60_exceptions.md R110: exactly one response a request). -/
def State.respond (s : State) (req : Instr) (rsp : Response) : State :=
  s.withInterface (.executing req rsp s.edge 0)

/-- Both tables loaded from the constants and `inited` set (40_init.md R83). -/
def State.loadTables (s : State) : State := s.withTables gammaRom igammaRom true

/-- Both tables zero and `inited` clear (70_reset_and_hazards.md R130). -/
def State.clearTables (s : State) : State := s.withTables zeroTable zeroTable false

/-- The response the block holds, presented or not. -/
def Interface.response? : Interface → Option Response
  | .idle => none
  | .executing _ rsp _ _ => some rsp
  | .responding rsp => some rsp

/-- Busy: from the acceptance of a request until the acceptance of its response (30_encoding.md R69). -/
def Interface.busy : Interface → Bool
  | .idle => false
  | .executing _ _ _ _ => true
  | .responding _ => true

/-- Applies `f` to the next state, if the outcome is one. -/
def onNext (f : State → State) : Host.Outcome State Fault Refusal → Host.Outcome State Fault Refusal
  | .next s => .next (f s)
  | .fault r => .fault r
  | .refused r => .refused r

end Sys2Proof.Machine
end

