-- ==== Sys2Proof/Machine/Blend.lean ====
section
/-! DEFINITION. The blend family: `MIXR` and `MIXG` (41_blend.md R90 to R96, R100 to R103). A blend is three independent lanes (R103). -/

namespace Sys2Proof.Machine

/-- The shifted accumulator `q_k` of a lane of `MIXR` (41_blend.md R93): the multiplicands are the channel values. -/
def rawQuotient (c1 c2 : Color) (w1 w2 : Weight) (s : Shift) (k : Lane) : Acc :=
  normalise (accumulate ((chan c1 k).setWidth 9) ((chan c2 k).setWidth 9) w1 w2) s

/-- The shifted accumulator `q_k` of a lane of `MIXG` (41_blend.md R94): the multiplicands are entries of `GT`. -/
def gammaQuotient (gt : Table) (c1 c2 : Color) (w1 w2 : Weight) (s : Shift) (k : Lane) : Acc :=
  normalise (accumulate (readEntry gt (chan c1 k)) (readEntry gt (chan c2 k)) w1 w2) s

/-- The output channel of a lane of `MIXG`: `IGT` at the saturated index, saturated again (41_blend.md R94, its two narrowings). -/
def gammaChannel (igt : Table) (q : Acc) : Channel := saturate (readEntry igt (saturate q))

/-- The response of a blend from the lanes' shifted accumulators and the lane's output form: the outputs packed, `ovf` the lanes' only
joint result (41_blend.md R95, R103), `ill` always 0. -/
def blendResponse (out : Acc → Channel) (uninit : Bool) (q : Lane → Acc) : Response where
  ill := false
  uninit := uninit
  ovf := exceeds (q .R) || exceeds (q .G) || exceeds (q .B)
  color := pack (out (q .R)) (out (q .G)) (out (q .B))

/-- The response of `MIXR` (41_blend.md R93): no state read. -/
def rawResponse (c1 c2 : Color) (w1 w2 : Weight) (s : Shift) : Response :=
  blendResponse saturate false (rawQuotient c1 c2 w1 w2 s)

/-- The response of `MIXG` (41_blend.md R94): `GT` read six times, `IGT` three times, `inited` once. -/
def gammaResponse (gt igt : Table) (inited : Bool) (c1 c2 : Color) (w1 w2 : Weight) (s : Shift) : Response :=
  blendResponse (gammaChannel igt) (uninitFlag inited) (gammaQuotient gt c1 c2 w1 w2 s)

/-- `MIXR c1, c2, w1, w2, s` (41_blend.md R93). -/
def execMixr (c1 c2 : Color) (w1 w2 : Weight) (sh : Shift) (s : State) : Host.Outcome State Fault Refusal :=
  .next (s.respond (.mixr c1 c2 w1 w2 sh) (rawResponse c1 c2 w1 w2 sh))

/-- `MIXG c1, c2, w1, w2, s` (41_blend.md R94). -/
def execMixg (c1 c2 : Color) (w1 w2 : Weight) (sh : Shift) (s : State) : Host.Outcome State Fault Refusal :=
  .next (s.respond (.mixg c1 c2 w1 w2 sh) (gammaResponse s.gt s.igt s.inited c1 c2 w1 w2 sh))

end Sys2Proof.Machine
end

