-- ==== Sys2Proof/Machine/Reserved.lean ====
section
/-! DEFINITION. The reserved operation (41_blend.md R98). -/

namespace Sys2Proof.Machine

/-- The response of the reserved operation: colour 0, `ill` = 1 (41_blend.md R98). -/
def reservedResponse : Response where
  ill := true
  uninit := false
  ovf := false
  color := 0#24

/-- `RSVD` (41_blend.md R98): no state read or written; the ignored bits are not read (30_encoding.md R64), only held with the request. -/
def execRsvd (ignored : BitVec 87) (s : State) : Host.Outcome State Fault Refusal :=
  .next (s.respond (.rsvd ignored) reservedResponse)

end Sys2Proof.Machine
end

