-- ==== Sys2Proof/Machine/Table.lean ====
section
/-! DEFINITION. The table family: `INIT` (40_init.md R80, R83, R87). -/

namespace Sys2Proof.Machine

/-- The response of `INIT`: colour 0, no flag (40_init.md R83). -/
def initResponse : Response where
  ill := false
  uninit := false
  ovf := false
  color := 0#24

/-- `INIT` (40_init.md R83): all 512 entries and `inited` written in one step; the ignored bits are not read (30_encoding.md R64), only
held with the request. -/
def execInit (ignored : BitVec 87) (s : State) : Host.Outcome State Fault Refusal :=
  .next (s.loadTables.respond (.init ignored) initResponse)

end Sys2Proof.Machine
end

