-- ==== Sys2Proof/Machine/Dispatch.lean ====
section
/-! DEFINITION. One operation as one indivisible step (00_scope.md R7, 20_memory.md R46, 60_exceptions.md R121). -/

namespace Sys2Proof.Machine

open Sys2Proof

def exec (i : Instr) (s : State) : Host.Outcome State Fault Refusal :=
  match i with
  | .mixr c1 c2 w1 w2 sh => Sys2Proof.Machine.execMixr c1 c2 w1 w2 sh s
  | .mixg c1 c2 w1 w2 sh => Sys2Proof.Machine.execMixg c1 c2 w1 w2 sh s
  | .init ignored => Sys2Proof.Machine.execInit ignored s
  | .rsvd ignored => Sys2Proof.Machine.execRsvd ignored s

end Sys2Proof.Machine
end

