-- ==== Sys2Proof/Machine/Handshake.lean ====
section
/-! DEFINITION. The two ports and the reset (30_encoding.md R60, R67 to R70; 70_reset_and_hazards.md R130, R132, R140): the outputs, what the
next rising edge is, and what each kind of edge does to the state. -/

namespace Sys2Proof.Machine

/-- The input ports at the next rising edge; past the end of the script the host is quiet (log entry 6). -/
def State.ports (s : State) : PortIn := s.script.headD quietEdge

/-- The host has a request outstanding that the ports no longer show as it was raised (30_encoding.md R68). -/
def State.breach? (s : State) : Option Refusal :=
  match s.presented with
  | none => none
  | some w =>
    if !s.ports.reqValid then some .requestWithdrawn
    else if requestWord s.ports ≠ w then some .requestAltered
    else none

/-- The request the ports show, if any (30_encoding.md R67). -/
def shownRequest (p : PortIn) : Option ReqWord := if p.reqValid then some (requestWord p) else none

/-- `T_INIT` for `INIT` and `T_MIX` for every other operation, at least 1 (00_scope.md R5, 30_encoding.md R70, 70_reset_and_hazards.md R140),
for a request accepted at the edge numbered `draw`. -/
def latency (i : Instr) (draw : Nat) : Nat :=
  match i with
  | .mixr _ _ _ _ _ => Config.mixWait draw + 1
  | .mixg _ _ _ _ _ => Config.mixWait draw + 1
  | .init _ => Config.initWait draw + 1
  | .rsvd _ => Config.mixWait draw + 1

/-- `req_ready`: 1 exactly when not busy and `rst` = 0 (30_encoding.md R69, 70_reset_and_hazards.md R130). -/
def State.reqReady (s : State) : Bool := !s.iface.busy && !s.ports.rst

/-- The response presented, if any: none while `rst` = 1 (70_reset_and_hazards.md R130). -/
def State.shownResponse (s : State) : Option Response :=
  match s.iface with
  | .responding rsp => if s.ports.rst then none else some rsp
  | .idle => none
  | .executing _ _ _ _ => none

/-- The output ports before the next rising edge. While `rsp_valid` = 0 the payload is a free value (30_encoding.md R67,
93_implementation_defined.md U6; log entry 10). -/
def State.outputs (s : State) : PortOut :=
  match s.shownResponse with
  | some rsp =>
    { reqReady := s.reqReady, rspValid := true, rspIll := rsp.ill, rspUninit := rsp.uninit, rspOvf := rsp.ovf, rspColor := rsp.color }
  | none =>
    { reqReady := s.reqReady, rspValid := false
      rspIll := (Config.idlePayload s.edge).getLsbD 26
      rspUninit := (Config.idlePayload s.edge).getLsbD 25
      rspOvf := (Config.idlePayload s.edge).getLsbD 24
      rspColor := (Config.idlePayload s.edge).setWidth 24 }

/-- What happens at a rising edge. -/
inductive EdgeKind where
  /-- `rst` = 1 (70_reset_and_hazards.md R130). -/
  | reset
  /-- The host has broken 30_encoding.md R68. -/
  | breach (r : Refusal)
  /-- A request is accepted (R67). -/
  | accept (i : Instr)
  /-- Not busy and nothing presented. -/
  | idle
  /-- Busy, the response not yet valid after this edge. -/
  | work (req : Instr) (rsp : Response) (draw age : Nat)
  /-- Busy, the response becomes valid at this edge (R70). -/
  | complete (rsp : Response)
  /-- The response is accepted (R67). -/
  | deliver (rsp : Response)
  /-- The response is held (R70). -/
  | wait
deriving DecidableEq, Repr

/-- The kind of the next rising edge. Reset goes first (70_reset_and_hazards.md R130, R132); then the host's duty (30_encoding.md R68); then
the handshakes (R67, R69, R70). -/
def State.edgeKind (s : State) : EdgeKind :=
  if s.ports.rst then .reset
  else match s.breach? with
    | some r => .breach r
    | none =>
      match s.iface with
      | .idle => if s.ports.reqValid then .accept (decodeReq (requestWord s.ports)) else .idle
      | .executing req rsp draw age => if latency req draw ≤ age + 1 then .complete rsp else .work req rsp draw age
      | .responding rsp => if s.ports.rspReady then .deliver rsp else .wait

/-- An edge with `rst` = 1 (70_reset_and_hazards.md R130, R132): the cleared configuration, not busy, any operation abandoned, any response
withdrawn, any presented request forgotten (30_encoding.md R68 "other than by asserting `rst`"). -/
def State.resetEdge (s : State) : State :=
  ((s.clearTables.withInterface .idle).withPresented none).pastEdge

/-- The rest of an edge that accepted a request: nothing is outstanding any more. -/
def State.acceptEdge (s : State) : State := (s.withPresented none).pastEdge

/-- The rest of an edge that accepted no request: what the ports show stays outstanding (30_encoding.md R68). -/
def State.otherEdge (s : State) : State := (s.withPresented (shownRequest s.ports)).pastEdge

/-- One more edge of an operation in progress. -/
def State.workEdge (s : State) (req : Instr) (rsp : Response) (draw age : Nat) : State :=
  (s.withInterface (.executing req rsp draw (age + 1))).otherEdge

/-- The response becomes valid (30_encoding.md R70). -/
def State.completeEdge (s : State) (rsp : Response) : State := (s.withInterface (.responding rsp)).otherEdge

/-- The host accepts the response: no longer busy, and the word is the host's (30_encoding.md R69, R70; 70_reset_and_hazards.md R138). -/
def State.deliverEdge (s : State) (rsp : Response) : State :=
  ((s.withInterface .idle).record (responseWord rsp)).otherEdge

/-- `s` with a request word presented at the next edge to a block that is not busy (log entry 12). -/
def State.present (s : State) (w : ReqWord) : State :=
  { s with iface := .idle, presented := none, script := requestEdge w :: s.script }

/-- Quiescence (70_reset_and_hazards.md R138): every request accepted, every response accepted, not busy. DESIGN CHOICE, log entry 20: edges
still in the script count as part of the run even where they present no request, so it is finished only once the whole script has passed.
DESIGN CHOICE, log entry 21: a request that a reset withdrew before it was accepted, or abandoned before it was answered, is not waited for. -/
def State.quiescent (s : State) : Bool := s.script.isEmpty && s.presented.isNone && !s.iface.busy

end Sys2Proof.Machine
end

