-- ==== Sys2Proof/Machine/Step.lean ====
section
/-! DEFINITION. One step: one rising edge of `clk` (30_encoding.md R60). An edge that accepts a request runs the operation its word decodes
to (R67, R75); log entries 1, 2. -/

namespace Sys2Proof.Machine

def step (s : State) : Host.Outcome State Fault Refusal :=
  match s.edgeKind with
  | .reset => .next s.resetEdge
  | .breach r => .refused r
  | .accept i => onNext State.acceptEdge (exec i s)
  | .idle => .next s.otherEdge
  | .work req rsp draw age => .next (s.workEdge req rsp draw age)
  | .complete rsp => .next (s.completeEdge rsp)
  | .deliver rsp => .next (s.deliverEdge rsp)
  | .wait => .next s.otherEdge

/-- `s` with the request word `w` presented at the next edge (30_encoding.md R61, R67), the block not busy: the next step accepts it and
runs it (log entry 12). A number above 89 bits is no request word and is not presented (log entry 13). -/
def State.withFetchWord (s : State) (_nbits w : Nat) : State :=
  if w < 2 ^ 89 then s.present (BitVec.ofNat 89 w) else s

end Sys2Proof.Machine
end

