-- ==== Sys2Proof/Safety.lean ====
section
/-! DEFINITION. The terms in which claims are made: the two reachable configurations, which responses carry a meaningful colour,
and the transactions that a run of edges performs. Nothing here is part of the step. -/

namespace Sys2Proof.Machine

/-- The *cleared* configuration of 10_state.md R32. -/
def State.cleared (s : State) : Bool := s.inited == false && s.gt == zeroTable && s.igt == zeroTable

/-- The *loaded* configuration of 10_state.md R32. -/
def State.loaded (s : State) : Bool := s.inited == true && s.gt == gammaRom && s.igt == igammaRom

/-- At every point between operations the state is cleared or loaded (10_state.md R32). -/
def State.configured (s : State) : Bool := s.cleared || s.loaded

/-- At most one flag is 1, and a response with `ill` or `uninit` has colour 0 (60_exceptions.md R111, R114). -/
def Response.lawful (r : Response) : Bool :=
  !(r.ill && r.uninit) && !(r.ill && r.ovf) && !(r.uninit && r.ovf) && (!(r.ill || r.uninit) || r.color == 0#24)

/-- The top three bits of a response word are one of `000`, `001`, `010`, `100` (60_exceptions.md R114). -/
def lawfulWord (w : RspWord) : Bool :=
  w.extractLsb' 24 3 == 0#3 || w.extractLsb' 24 3 == 1#3 || w.extractLsb' 24 3 == 2#3 || w.extractLsb' 24 3 == 4#3

/-- The invariant of the machine: a reachable configuration (R32), and every response held or taken is lawful (R114). -/
def State.inv (s : State) : Bool :=
  s.configured && (match s.iface.response? with | none => true | some r => r.lawful) && s.taken.all lawfulWord

/-- The response an operation determines in a state (60_exceptions.md R121: a function of state and request). -/
def responseOf (i : Instr) (s : State) : Option Response :=
  match exec i s with
  | .next t => t.iface.response?
  | .fault _ => none
  | .refused _ => none

/-- `floor((x1*w1 + x2*w2) / 2^s)` on natural numbers: the shifted accumulator as 41_blend.md R93, R94 and R101 write it. -/
def quotient (x1 x2 w1 w2 s : Nat) : Nat := (x1 * w1 + x2 * w2) / 2 ^ s

/-- `q_k` of `MIXR` on natural numbers (41_blend.md R93). -/
def rawQ (c1 c2 : Color) (w1 w2 : Weight) (s : Shift) (k : Lane) : Nat :=
  quotient (chan c1 k).toNat (chan c2 k).toNat w1.toNat w2.toNat s.toNat

/-- `q_k` of `MIXG` with gamma table `gt` on natural numbers (41_blend.md R94). -/
def gammaQ (gt : Table) (c1 c2 : Color) (w1 w2 : Weight) (s : Shift) (k : Lane) : Nat :=
  quotient (readEntry gt (chan c1 k)).toNat (readEntry gt (chan c2 k)).toNat w1.toNat w2.toNat s.toNat

/-- `min(q, 255)` as an index (41_blend.md R94, 20_memory.md R45). -/
def clampIndex (q : Nat) : Index := BitVec.ofNat 8 (min q 255)

/-- A *normalised* request: `w1 + w2 <= 2^s` (41_blend.md R104). -/
def normalised (w1 w2 : Weight) (s : Shift) : Bool := w1.toNat + w2.toNat ≤ 2 ^ s.toNat

/-- `RT[v] = min(IGAMMA_ROM[GAMMA_ROM[v]], 255)` (40_init.md R86 item 6). -/
def roundTrip (v : Channel) : Channel := saturate (readEntry igammaRom ((readEntry gammaRom v).setWidth 8))

/-- The round-trip image of each channel of a colour (41_blend.md R105). -/
def roundTripColor (c : Color) : Color := pack (roundTrip (chan c .R)) (roundTrip (chan c .G)) (roundTrip (chan c .B))

/-- Some lane of a `MIXG` has a shifted accumulator of exactly 255 in the loaded configuration: the model-only condition of
93_implementation_defined.md U3, which no flag reports. -/
def atTop : Instr → State → Bool
  | .mixg c1 c2 w1 w2 sh, s =>
    s.loaded && (gammaQ s.gt c1 c2 w1 w2 sh .R == 255 || gammaQ s.gt c1 c2 w1 w2 sh .G == 255 || gammaQ s.gt c1 c2 w1 w2 sh .B == 255)
  | .mixr _ _ _ _ _, _ => false
  | .init _, _ => false
  | .rsvd _, _ => false

/-- Whether a claim about colours may use the colour that `i` returns in `s` (60_exceptions.md R121; U1 to U4): no flag, and not U3. -/
def colourMeaningful (i : Instr) (s : State) : Bool :=
  match responseOf i s with
  | some r => !r.ill && !r.uninit && !r.ovf && !atTop i s
  | none => false

/-- The architectural state: the three items of 10_state.md R21. -/
structure Arch where
  gt : Table
  igt : Table
  inited : Bool
deriving DecidableEq, Repr

def State.arch (s : State) : Arch := { gt := s.gt, igt := s.igt, inited := s.inited }

/-- What reset leaves (10_state.md R33). -/
def Arch.clear : Arch := { gt := zeroTable, igt := zeroTable, inited := false }

/-- The state after an operation (40_init.md R83, 41_blend.md R92, R98): only `INIT` changes it. -/
def Arch.after (a : Arch) : Instr → Arch
  | .mixr _ _ _ _ _ => a
  | .mixg _ _ _ _ _ => a
  | .init _ => { gt := gammaRom, igt := igammaRom, inited := true }
  | .rsvd _ => a

/-- The response of an operation (60_exceptions.md R121). -/
def Arch.answer (a : Arch) : Instr → Response
  | .mixr c1 c2 w1 w2 sh => rawResponse c1 c2 w1 w2 sh
  | .mixg c1 c2 w1 w2 sh => gammaResponse a.gt a.igt a.inited c1 c2 w1 w2 sh
  | .init _ => initResponse
  | .rsvd _ => reservedResponse

/-- Requests executed one at a time, each to completion before the next (20_memory.md R46): the state after all of them. -/
def Arch.afterAll (a : Arch) : List Instr → Arch
  | [] => a
  | i :: rest => (a.after i).afterAll rest

/-- Their responses, in the order of the requests (20_memory.md R46 (d)). -/
def Arch.answers (a : Arch) : List Instr → List Response
  | [] => []
  | i :: rest => a.answer i :: (a.after i).answers rest

/-- `k` rising edges, stopping at the first fault or refusal (70_reset_and_hazards.md R138: a run). -/
def run : Nat → State → Host.Outcome State Fault Refusal
  | 0, s => .next s
  | k + 1, s =>
    match step s with
    | .next t => run k t
    | .fault r => .fault r
    | .refused r => .refused r

/-- The operation an edge accepts, if any (30_encoding.md R67). -/
def EdgeKind.accepted? : EdgeKind → Option Instr
  | .reset => none
  | .breach _ => none
  | .accept i => some i
  | .idle => none
  | .work _ _ _ _ => none
  | .complete _ => none
  | .deliver _ => none
  | .wait => none

/-- The operations accepted in a run of `k` edges, oldest first (10_state.md R26: the order of acceptance). -/
def accepted : Nat → State → List Instr
  | 0, _ => []
  | k + 1, s =>
    s.edgeKind.accepted?.toList ++
      match step s with
      | .next t => accepted k t
      | .fault _ => []
      | .refused _ => []

/-- The word of the response the block holds, presented or not. -/
def State.held (s : State) : List RspWord := s.iface.response?.toList.map responseWord

/-- An edge without reset at which the host shows `request` or none, and drives `rsp_ready` (30_encoding.md R60, R67). -/
def hostEdge (request : Option ReqWord) (ready : Bool) : PortIn :=
  match request with
  | some w => { requestEdge w with rspReady := ready }
  | none => { quietEdge with rspReady := ready }

/-- One request of a host that does its duties, and when the host acts on it (70_reset_and_hazards.md R139). -/
structure Turn where
  request : Instr
  /-- How many edges after the acceptance of the previous request (the first: after the beginning) the host raises this one: while the
  block is still busy, in which case it holds it until it is accepted (30_encoding.md R68), or any number of edges later. -/
  raised : Nat
  /-- For how many edges the host lets the valid response wait. -/
  delay : Nat
deriving DecidableEq, Repr

/-- The inputs from the edge numbered `n`, the first after an acceptance, to the one that takes the response: `wait` edges before the
response is valid, with `rsp_ready` as `ready` says, `delay` edges at which the host does not take it, and the one at which it does. -/
def busyScript (ready : Nat → Bool) (wait delay : Nat) (next : Option Turn) (n : Nat) : List PortIn :=
  (List.range (wait + delay + 1)).map fun j =>
    hostEdge ((next.filter fun v => v.raised ≤ j).map fun v => encode v.request) (if j < wait then ready (n + j) else j == wait + delay)

/-- The inputs of a host that does its duties over a list of requests (70_reset_and_hazards.md R139), from the edge numbered `n`, `past`
edges after the last acceptance: it raises each request when its turn says and holds it until it is accepted, and takes each response
after the turn's delay; at every edge without a valid response `rsp_ready` is whatever `ready` gives. -/
def hostScript (ready : Nat → Bool) : Nat → List Turn → Nat → List PortIn
  | _, [], _ => []
  | past, u :: rest, n =>
    let gap := u.raised - past
    let wait := latency u.request (n + gap)
    (List.range gap).map (fun j => hostEdge none (ready (n + j))) ++
      hostEdge (some (encode u.request)) (ready (n + gap)) ::
        (busyScript ready wait u.delay rest.head? (n + gap + 1) ++
          hostScript ready (wait + u.delay + 1) rest (n + gap + 1 + (wait + u.delay + 1)))

end Sys2Proof.Machine
end

