-- ==== Sys2Proof/Certificates/Slice0/Obligations.lean ====
section
/-! DEFINITION. The statements about the block, from the numbered rules of spec/. Each docstring names the rule it formalises. -/

open Sys2Proof Sys2Proof.Machine

/-! ### Request and response words -/

/-- Rules R61, R62, R64 of 30_encoding.md: decoding the word of an operation gives the operation back, with every operand at every value
and every ignored bit kept. -/
def Obligations.EncodedOperationDecodesToItself : Prop :=
  ∀ i : Instr, decodeReq (encode i) = i

/-- R75: every one of the 2^89 words is the word of exactly one operation, selected by `op` alone. -/
def Obligations.EveryWordIsExactlyOneRequest : Prop :=
  ∀ w : ReqWord,
    encode (decodeReq w) = w ∧ (∀ i, encode i = w → i = decodeReq w) ∧ opcodeOf (decodeReq w) = reqOp w

/-- R61: the request word of the ports as an integer, and each field read back from its bits. -/
def Obligations.RequestWordHoldsThePorts : Prop :=
  ∀ p : PortIn,
    (requestWord p).toNat =
      p.reqOp.toNat * 2 ^ 87 + p.reqShift.toNat * 2 ^ 82 + p.reqWeight1.toNat * 2 ^ 65 + p.reqWeight2.toNat * 2 ^ 48 +
        p.reqColor1.toNat * 2 ^ 24 + p.reqColor2.toNat ∧
    reqOp (requestWord p) = p.reqOp ∧ reqShift (requestWord p) = p.reqShift ∧ reqWeight1 (requestWord p) = p.reqWeight1 ∧
    reqWeight2 (requestWord p) = p.reqWeight2 ∧ reqColor1 (requestWord p) = p.reqColor1 ∧ reqColor2 (requestWord p) = p.reqColor2

/-- R62: the mask and the four matches of the operation table, each selecting its row, whose operands are the fields of R61. -/
def Obligations.OperationCodeSelectsTheRow : Prop :=
  ∀ w : ReqWord,
    (w &&& 0x18000000000000000000000#89 = 0x00000000000000000000000#89 ↔
      decodeReq w = .mixr (reqColor1 w) (reqColor2 w) (reqWeight1 w) (reqWeight2 w) (reqShift w)) ∧
    (w &&& 0x18000000000000000000000#89 = 0x08000000000000000000000#89 ↔
      decodeReq w = .mixg (reqColor1 w) (reqColor2 w) (reqWeight1 w) (reqWeight2 w) (reqShift w)) ∧
    (w &&& 0x18000000000000000000000#89 = 0x10000000000000000000000#89 ↔ ∃ x, decodeReq w = .init x) ∧
    (w &&& 0x18000000000000000000000#89 = 0x18000000000000000000000#89 ↔ ∃ x, decodeReq w = .rsvd x)

/-- Words of 95_test_vectors.md (V39, V16, V1, V3, V62, V33), written out, decode to what they spell. -/
def Obligations.SampleWordsDecode : Prop :=
  decodeReq 0x08800060001102030405060#89 = .mixg 0x102030 0x405060 3 1 2 ∧
  decodeReq 0x00800060001102030405060#89 = .mixr 0x102030 0x405060 3 1 2 ∧
  decodeReq 0x10000000000000000000000#89 = .init 0 ∧
  decodeReq 0x10c000e0009abcdef123456#89 = .init 0x0c000e0009abcdef123456 ∧
  decodeReq 0x18000000000000000000000#89 = .rsvd 0 ∧
  decodeReq 0x003ffffffffffffffffffff#89 = .mixr 0xFFFFFF 0xFFFFFF 131071 131071 0

/-- R66 (layout): the response word as an integer. -/
def Obligations.ResponseWordIsFlagsAndColor : Prop :=
  ∀ r : Response,
    (responseWord r).toNat = r.ill.toNat * 2 ^ 26 + r.uninit.toNat * 2 ^ 25 + r.ovf.toNat * 2 ^ 24 + r.color.toNat

/-- R20: a packed colour is its three channels and nothing else. -/
def Obligations.PackedColorIsItsChannels : Prop :=
  (∀ r g b : Channel,
    (pack r g b).toNat = r.toNat * 2 ^ 16 + g.toNat * 2 ^ 8 + b.toNat ∧
    chan (pack r g b) .R = r ∧ chan (pack r g b) .G = g ∧ chan (pack r g b) .B = b) ∧
  (∀ c : Color,
    pack (chan c .R) (chan c .G) (chan c .B) = c ∧
    (chan c .R).toNat = c.toNat / 2 ^ 16 ∧ (chan c .G).toNat = c.toNat / 2 ^ 8 % 2 ^ 8 ∧ (chan c .B).toNat = c.toNat % 2 ^ 8)

/-- R64: the ignored fields of `INIT` and of the reserved code have no effect on the state or on the response, and the reserved code
changes no state and answers `ill` with colour 0. -/
def Obligations.IgnoredFieldsHaveNoEffect : Prop :=
  ∀ (x y : BitVec 87) (s : State),
    (∃ t u, exec (.init x) s = .next t ∧ exec (.init y) s = .next u ∧ t.arch = u.arch ∧ t.iface.response? = u.iface.response?) ∧
    (∃ t u, exec (.rsvd x) s = .next t ∧ exec (.rsvd y) s = .next u ∧ t.arch = u.arch ∧ t.iface.response? = u.iface.response? ∧
      t.arch = s.arch ∧ t.iface.response? = some ⟨true, false, false, 0#24⟩)

/-- R63, R71 and U9 of 93_implementation_defined.md: a program line is assembled exactly when every operand fits its field, and then its
numbers reach the fields at face value. -/
def Obligations.AssemblerNeverReducesOperands : Prop :=
  (∀ l : SourceLine, (∃ a, assemble l = .ok a) ↔ l.wellFormed = true) ∧
  (∀ c1 c2 w1 w2 s : Nat, c1 < 2 ^ 24 → c2 < 2 ^ 24 → w1 ≤ 131071 → w2 ≤ 131071 → s ≤ 31 →
    ∃ (d1 d2 : Color) (v1 v2 : Weight) (sh : Shift),
      d1.toNat = c1 ∧ d2.toNat = c2 ∧ v1.toNat = w1 ∧ v2.toNat = w2 ∧ sh.toNat = s ∧
      assemble (.mixr c1 c2 w1 w2 s) = .ok (.request (.mixr d1 d2 v1 v2 sh)) ∧
      assemble (.mixg c1 c2 w1 w2 s) = .ok (.request (.mixg d1 d2 v1 v2 sh))) ∧
  (∀ c1 c2 w1 w2 s : Nat, ¬ (c1 < 2 ^ 24 ∧ c2 < 2 ^ 24 ∧ w1 ≤ 131071 ∧ w2 ≤ 131071 ∧ s ≤ 31) →
    ∃ e, assemble (.mixr c1 c2 w1 w2 s) = .error e ∧ assemble (.mixg c1 c2 w1 w2 s) = .error e)

/-- R72: the two pseudo-operations. That a mode above 1 is refused, and as `badMode` whatever the other operands, is the model's choice
(log entry 16). -/
def Obligations.PseudoOperationsExpand : Prop :=
  (∀ c1 c2 w1 w2 s : Nat, assemble (.mix c1 c2 w1 w2 s 0) = assemble (.mixr c1 c2 w1 w2 s)) ∧
  (∀ c1 c2 w1 w2 s : Nat, assemble (.mix c1 c2 w1 w2 s 1) = assemble (.mixg c1 c2 w1 w2 s)) ∧
  (∀ c1 c2 g : Nat, assemble (.avg c1 c2 g) = assemble (.mix c1 c2 128 128 8 g)) ∧
  (∀ c1 c2 w1 w2 s g : Nat, 1 < g → assemble (.mix c1 c2 w1 w2 s g) = .error .badMode)

/-! ### Arithmetic -/

/-- R100: the 27-bit accumulator holds the sum exactly for every entry and weight, and the tighter bounds of the reachable configurations. -/
def Obligations.AccumulatorIsExact : Prop :=
  (∀ (x1 x2 : Entry) (w1 w2 : Weight),
    (accumulate x1 x2 w1 w2).toNat = x1.toNat * w1.toNat + x2.toNat * w2.toNat ∧ x1.toNat * w1.toNat ≤ 66977281 ∧
    (accumulate x1 x2 w1 w2).toNat ≤ 133954562) ∧
  (∀ (a1 a2 : Channel) (w1 w2 : Weight), (accumulate (a1.setWidth 9) (a2.setWidth 9) w1 w2).toNat ≤ 66846210) ∧
  (∀ (a1 a2 : Channel) (w1 w2 : Weight),
    (accumulate (readEntry gammaRom a1) (readEntry gammaRom a2) w1 w2).toNat ≤ 66584068)

/-- R101: the shift is the floor of a division, 27 and more give 0 for every accumulator, and 26 already does in a reachable configuration. -/
def Obligations.ShiftIsFloorDivision : Prop :=
  (∀ (acc : Acc) (s : Shift), (normalise acc s).toNat = acc.toNat / 2 ^ s.toNat) ∧
  (∀ acc : Acc, normalise acc 0#5 = acc) ∧
  (∀ (acc : Acc) (s : Shift), 27 ≤ s.toNat → normalise acc s = 0#27) ∧
  (∀ (c1 c2 : Color) (w1 w2 : Weight) (sh : Shift) (s : State), 26 ≤ sh.toNat →
    responseOf (.mixr c1 c2 w1 w2 sh) s = some ⟨false, false, false, 0#24⟩ ∧
    (s.configured = true → responseOf (.mixg c1 c2 w1 w2 sh) s = some ⟨false, !s.inited, false, 0#24⟩))

/-! ### The operations -/

/-- R93: `MIXR` completes in every state, its response a function of the operands alone and given by the rule's pseudocode on natural
numbers; everything but the interface state is unchanged. -/
def Obligations.MixrCompletesWithRawBlend : Prop :=
  ∀ (c1 c2 : Color) (w1 w2 : Weight) (sh : Shift), ∃ r : Response,
    (∀ s : State, exec (.mixr c1 c2 w1 w2 sh) s = .next { s with iface := .executing (.mixr c1 c2 w1 w2 sh) r s.edge 0 }) ∧
    (∀ k, (chan r.color k).toNat = min (rawQ c1 c2 w1 w2 sh k) 255) ∧
    (r.ovf = true ↔ ∃ k, 255 < rawQ c1 c2 w1 w2 sh k) ∧ r.uninit = false ∧ r.ill = false

/-- R94: `MIXG` completes in every state, whatever the tables hold, its response given by the rule's pseudocode on natural numbers;
everything but the interface state is unchanged. -/
def Obligations.MixgCompletesWithGammaBlend : Prop :=
  ∀ (c1 c2 : Color) (w1 w2 : Weight) (sh : Shift) (s : State), ∃ r : Response,
    exec (.mixg c1 c2 w1 w2 sh) s = .next { s with iface := .executing (.mixg c1 c2 w1 w2 sh) r s.edge 0 } ∧
    (∀ k, (chan r.color k).toNat = min (readEntry s.igt (clampIndex (gammaQ s.gt c1 c2 w1 w2 sh k))).toNat 255) ∧
    (r.ovf = true ↔ ∃ k, 255 < gammaQ s.gt c1 c2 w1 w2 sh k) ∧ r.uninit = !s.inited ∧ r.ill = false

/-- R83: `INIT` completes in every state, with both tables loaded in the one step, `inited` set, the response all zero, and nothing else
changed but the interface state. -/
def Obligations.InitCompletesWithTablesLoaded : Prop :=
  ∀ (x : BitVec 87) (s : State), ∃ t : State,
    exec (.init x) s = .next t ∧
    (∀ i : Index, readEntry t.gt i = readEntry gammaRom i ∧ readEntry t.igt i = readEntry igammaRom i) ∧ t.inited = true ∧
    t = { s with gt := t.gt, igt := t.igt, inited := true, iface := .executing (.init x) ⟨false, false, false, 0#24⟩ s.edge 0 }

/-- R98: the reserved operation completes in every state with `ill` and colour 0, changing nothing but the interface state, and it is the
only operation whose response has `ill`. -/
def Obligations.ReservedCompletesWithIll : Prop :=
  (∀ (x : BitVec 87) (s : State),
    exec (.rsvd x) s = .next { s with iface := .executing (.rsvd x) ⟨true, false, false, 0#24⟩ s.edge 0 }) ∧
  (∀ (i : Instr) (s : State), (∃ r, responseOf i s = some r ∧ r.ill = true) ↔ ∃ x, i = .rsvd x)

/-- R92: the blends and the reserved operation leave every entry of both tables and `inited` as they were, and their response is a
function of the request and, for `MIXG`, of the one bit `inited`. -/
def Obligations.BlendsWriteNoState : Prop :=
  (∀ (i : Instr) (s : State), (∀ x, i ≠ .init x) → ∃ t, exec i s = .next t ∧
    (∀ a : Index, readEntry t.gt a = readEntry s.gt a ∧ readEntry t.igt a = readEntry s.igt a) ∧ t.inited = s.inited) ∧
  (∀ (i : Instr) (s u : State), (∀ x, i ≠ .init x) → s.configured = true → u.configured = true → s.inited = u.inited →
    responseOf i s = responseOf i u)

/-- The frame of all four operations on what is not theirs: the request outstanding, the inputs to come, the responses taken and the edge
number (10_state.md R21: nothing else survives; the fields are the model's own, log entries 6 to 9). -/
def Obligations.OperationsLeaveTheHostSide : Prop :=
  ∀ (i : Instr) (s : State), ∃ t, exec i s = .next t ∧
    t.presented = s.presented ∧ t.script = s.script ∧ t.taken = s.taken ∧ t.edge = s.edge

/-- R95: when `ovf` is 1, that a lane above 255 is saturated and every other lane carries its ordinary result, and that `ovf` is never 1
in the cleared configuration. -/
def Obligations.OvfMarksSaturatedLanes : Prop :=
  (∀ (c1 c2 : Color) (w1 w2 : Weight) (sh : Shift) (s : State), ∃ r, responseOf (.mixr c1 c2 w1 w2 sh) s = some r ∧
    (r.ovf = true ↔ ∃ k, 255 < rawQ c1 c2 w1 w2 sh k) ∧
    (∀ k, 255 < rawQ c1 c2 w1 w2 sh k → chan r.color k = 255#8) ∧
    (∀ k, rawQ c1 c2 w1 w2 sh k ≤ 255 → (chan r.color k).toNat = rawQ c1 c2 w1 w2 sh k)) ∧
  (∀ (c1 c2 : Color) (w1 w2 : Weight) (sh : Shift) (s : State), ∃ r, responseOf (.mixg c1 c2 w1 w2 sh) s = some r ∧
    (r.ovf = true ↔ ∃ k, 255 < gammaQ s.gt c1 c2 w1 w2 sh k) ∧
    (s.configured = true → ∀ k, 255 < gammaQ s.gt c1 c2 w1 w2 sh k → chan r.color k = 255#8) ∧
    (∀ k, gammaQ s.gt c1 c2 w1 w2 sh k ≤ 255 →
      (chan r.color k).toNat = min (readEntry s.igt (BitVec.ofNat 8 (gammaQ s.gt c1 c2 w1 w2 sh k))).toNat 255) ∧
    (s.cleared = true → r.ovf = false))

/-- R96: `uninit` is 1 exactly for a `MIXG` executed with `inited` = 0, and neither the flag nor `inited` alters the colour or `ovf`. -/
def Obligations.UninitReportsMixgBeforeInit : Prop :=
  (∀ (i : Instr) (s : State), ∃ r, responseOf i s = some r ∧
    (r.uninit = true ↔ (∃ c1 c2 w1 w2 sh, i = .mixg c1 c2 w1 w2 sh) ∧ s.inited = false)) ∧
  (∀ (c1 c2 : Color) (w1 w2 : Weight) (sh : Shift) (s : State) (b : Bool), ∃ r q,
    responseOf (.mixg c1 c2 w1 w2 sh) s = some r ∧ responseOf (.mixg c1 c2 w1 w2 sh) { s with inited := b } = some q ∧
    r.color = q.color ∧ r.ovf = q.ovf)

/-- R114: at most one flag is 1 in any response of a reachable configuration, and the top three bits of its word are one of four values. -/
def Obligations.AtMostOneFlagInAResponse : Prop :=
  ∀ (i : Instr) (s : State), s.configured = true → ∃ r, responseOf i s = some r ∧
    (r.ill = true → r.ovf = false ∧ r.uninit = false) ∧ (r.uninit = true → r.ovf = false ∧ r.ill = false) ∧
    (r.ovf = true → r.uninit = false ∧ r.ill = false) ∧
    ((responseWord r).toNat / 2 ^ 24 = 0 ∨ (responseWord r).toNat / 2 ^ 24 = 1 ∨ (responseWord r).toNat / 2 ^ 24 = 2 ∨
      (responseWord r).toNat / 2 ^ 24 = 4)

/-- R108: every `MIXG` of the cleared configuration answers black with `uninit` alone, whatever its operands, and `MIXR` does not depend on
the configuration. -/
def Obligations.MixgBeforeInitIsBlackAndFlagged : Prop :=
  (∀ (c1 c2 : Color) (w1 w2 : Weight) (sh : Shift) (s : State), s.cleared = true →
    exec (.mixg c1 c2 w1 w2 sh) s =
      .next { s with iface := .executing (.mixg c1 c2 w1 w2 sh) ⟨false, true, false, 0#24⟩ s.edge 0 }) ∧
  (∀ (c1 c2 : Color) (w1 w2 : Weight) (sh : Shift) (s u : State),
    responseOf (.mixr c1 c2 w1 w2 sh) s = responseOf (.mixr c1 c2 w1 w2 sh) u)

/-- R87: after one `INIT` or two the architectural state is the same and so is every later response. -/
def Obligations.RepeatedInitChangesNothing : Prop :=
  ∀ (x y : BitVec 87) (s : State), ∃ t u, exec (.init x) s = .next t ∧ exec (.init y) t = .next u ∧
    u.arch = t.arch ∧ ∀ i, responseOf i u = responseOf i t

/-! ### Laws of the blends -/

/-- R104: a normalised request saturates nothing and sets no `ovf`, and with `w1 + w2 = 2^s` the shifted accumulator lies between the two
multiplicands and each result channel between the two inputs (their round-trip images in `MIXG`); the condition is not necessary. -/
def Obligations.NormalisedRequestsStayInRange : Prop :=
  (∀ x1 x2 w1 w2 s : Nat, w1 + w2 ≤ 2 ^ s → quotient x1 x2 w1 w2 s ≤ max x1 x2) ∧
  (∀ x1 x2 w1 w2 s : Nat, w1 + w2 = 2 ^ s → min x1 x2 ≤ quotient x1 x2 w1 w2 s) ∧
  (∀ (c1 c2 : Color) (w1 w2 : Weight) (sh : Shift) (s : State), normalised w1 w2 sh = true →
    ∃ r, responseOf (.mixr c1 c2 w1 w2 sh) s = some r ∧ r.ovf = false ∧
      (∀ k, (chan r.color k).toNat = rawQ c1 c2 w1 w2 sh k) ∧
      (w1.toNat + w2.toNat = 2 ^ sh.toNat → ∀ k,
        min (chan c1 k).toNat (chan c2 k).toNat ≤ (chan r.color k).toNat ∧
        (chan r.color k).toNat ≤ max (chan c1 k).toNat (chan c2 k).toNat)) ∧
  (∀ (c1 c2 : Color) (w1 w2 : Weight) (sh : Shift) (s : State), normalised w1 w2 sh = true → s.loaded = true →
    ∃ r, responseOf (.mixg c1 c2 w1 w2 sh) s = some r ∧ r.ovf = false ∧
      (∀ k, gammaQ s.gt c1 c2 w1 w2 sh k ≤ 254 ∧
        (chan r.color k).toNat = (readEntry igammaRom (BitVec.ofNat 8 (gammaQ s.gt c1 c2 w1 w2 sh k))).toNat) ∧
      (w1.toNat + w2.toNat = 2 ^ sh.toNat → ∀ k,
        min (roundTrip (chan c1 k)).toNat (roundTrip (chan c2 k)).toNat ≤ (chan r.color k).toNat ∧
        (chan r.color k).toNat ≤ max (roundTrip (chan c1 k)).toNat (roundTrip (chan c2 k)).toNat)) ∧
  (∀ s : State, normalised 256 256 8 = false ∧
    responseOf (.mixr 0xFF00FF 0x00FF00 256 256 8) s = some ⟨false, false, false, 0xFFFFFF⟩)

/-- R105: equal colours with weights summing to `2^s`: the identity in `MIXR`, the round-trip image in `MIXG`, and the colours that image
leaves alone. -/
def Obligations.EqualColorsBlendToRoundTrip : Prop :=
  (∀ (c : Color) (w1 w2 : Weight) (sh : Shift) (s : State), w1.toNat + w2.toNat = 2 ^ sh.toNat →
    responseOf (.mixr c c w1 w2 sh) s = some ⟨false, false, false, c⟩ ∧
    (s.loaded = true → responseOf (.mixg c c w1 w2 sh) s = some ⟨false, false, false, roundTripColor c⟩)) ∧
  (∀ c : Color, roundTripColor c = c ↔ ∀ k, roundTrip (chan c k) = chan c k) ∧
  (∀ v : Channel, roundTrip v = v ↔ 120 ≤ v.toNat ∨
    v.toNat ∈ [0, 21, 28, 34, 39, 43, 46, 50, 53, 56, 59, 61, 64, 66, 68, 70, 73, 75, 77, 78, 80, 82, 84, 86, 87, 89, 91, 92, 94, 95,
      97, 98, 99, 101, 102, 104, 105, 106, 108, 109, 110, 111, 113, 114, 115, 116, 117, 118]) ∧
  (∀ v : Channel, 1 ≤ v.toNat → v.toNat ≤ 15 → roundTrip v = 0#8) ∧
  (∀ s : State, s.loaded = true →
    responseOf (.mixg 0x123456 0x123456 65536 65536 17) s = some ⟨false, false, false, 0x153556⟩)

/-- R106: swapping the two colours together with their weights leaves the response unchanged, in both blends and every state. -/
def Obligations.SwappedOperandsGiveTheSameResponse : Prop :=
  ∀ (c1 c2 : Color) (w1 w2 : Weight) (sh : Shift) (s : State),
    (∃ r, responseOf (.mixr c1 c2 w1 w2 sh) s = some r ∧ responseOf (.mixr c2 c1 w2 w1 sh) s = some r) ∧
    (∃ r, responseOf (.mixg c1 c2 w1 w2 sh) s = some r ∧ responseOf (.mixg c2 c1 w2 w1 sh) s = some r)

/-- R103: a lane's result depends on that lane's channels alone: changing the other channels of either colour cannot disturb it. -/
def Obligations.LanesDoNotInteract : Prop :=
  ∀ (c1 c2 d1 d2 : Color) (w1 w2 : Weight) (sh : Shift) (s : State) (k : Lane),
    chan c1 k = chan d1 k → chan c2 k = chan d2 k →
    (∃ r q, responseOf (.mixr c1 c2 w1 w2 sh) s = some r ∧ responseOf (.mixr d1 d2 w1 w2 sh) s = some q ∧
      chan r.color k = chan q.color k) ∧
    (∃ r q, responseOf (.mixg c1 c2 w1 w2 sh) s = some r ∧ responseOf (.mixg d1 d2 w1 w2 sh) s = some q ∧
      chan r.color k = chan q.color k)

/-- R102: zero weights, a single weight of `2^s`, the largest operands at every shift, and channels of value 0. -/
def Obligations.ZeroAndExtremeOperands : Prop :=
  (∀ (c1 c2 : Color) (sh : Shift) (s : State),
    responseOf (.mixr c1 c2 0 0 sh) s = some ⟨false, false, false, 0#24⟩ ∧
    (s.configured = true → responseOf (.mixg c1 c2 0 0 sh) s = some ⟨false, !s.inited, false, 0#24⟩)) ∧
  (∀ (c1 c2 : Color) (w : Weight) (sh : Shift) (s : State), w.toNat = 2 ^ sh.toNat →
    responseOf (.mixr c1 c2 w 0 sh) s = some ⟨false, false, false, c1⟩ ∧
    responseOf (.mixr c1 c2 0 w sh) s = some ⟨false, false, false, c2⟩ ∧
    (s.loaded = true →
      responseOf (.mixg c1 c2 w 0 sh) s = some ⟨false, false, false, roundTripColor c1⟩ ∧
      responseOf (.mixg c1 c2 0 w sh) s = some ⟨false, false, false, roundTripColor c2⟩)) ∧
  (∀ (sh : Shift) (s : State), ∃ r, responseOf (.mixr 0xFFFFFF 0xFFFFFF 131071 131071 sh) s = some r ∧
    (sh.toNat ≤ 17 → r = ⟨false, false, true, 0xFFFFFF⟩) ∧ (sh.toNat = 18 → r = ⟨false, false, false, 0xFEFEFE⟩) ∧
    (18 ≤ sh.toNat → r.ill = false ∧ r.uninit = false ∧ r.ovf = false ∧ ∀ k, (chan r.color k).toNat = 66846210 / 2 ^ sh.toNat) ∧
    (26 ≤ sh.toNat → r = ⟨false, false, false, 0⟩)) ∧
  (∀ (c1 c2 : Color) (w1 w2 v : Weight) (sh : Shift) (s : State) (k : Lane), ∃ r q p,
    responseOf (.mixr c1 c2 w1 w2 sh) s = some r ∧ responseOf (.mixr c1 c2 v w2 sh) s = some q ∧
    responseOf (.mixr c1 c2 w1 v sh) s = some p ∧
    (chan c1 k = 0#8 → chan r.color k = chan q.color k) ∧ (chan c2 k = 0#8 → chan r.color k = chan p.color k) ∧
    (chan c1 k = 0#8 → chan c2 k = 0#8 → chan r.color k = 0#8)) ∧
  (∀ (c1 c2 : Color) (w1 w2 v : Weight) (sh : Shift) (s : State) (k : Lane), s.loaded = true → ∃ r q p,
    responseOf (.mixg c1 c2 w1 w2 sh) s = some r ∧ responseOf (.mixg c1 c2 v w2 sh) s = some q ∧
    responseOf (.mixg c1 c2 w1 v sh) s = some p ∧
    (chan c1 k = 0#8 → chan r.color k = chan q.color k) ∧ (chan c2 k = 0#8 → chan r.color k = chan p.color k) ∧
    (chan c1 k = 0#8 → chan c2 k = 0#8 → chan r.color k = 0#8))

/-- R107: black and white survive a blend of weight 1 with shift 0, raw in every state and gamma-corrected once the tables are loaded. -/
def Obligations.BlackAndWhiteSurvive : Prop :=
  ∀ s : State,
    responseOf (.mixr 0x000000 0xFFFFFF 1 0 0) s = some ⟨false, false, false, 0x000000⟩ ∧
    responseOf (.mixr 0x000000 0xFFFFFF 0 1 0) s = some ⟨false, false, false, 0xFFFFFF⟩ ∧
    (s.loaded = true →
      responseOf (.mixg 0x000000 0xFFFFFF 1 0 0) s = some ⟨false, false, false, 0x000000⟩ ∧
      responseOf (.mixg 0x000000 0xFFFFFF 0 1 0) s = some ⟨false, false, false, 0xFFFFFF⟩)

/-- R99: where `ovf` = 0 and no lane of a `MIXG` is at 255, no narrowing binds and the colour is the source's unclamped one; a lane at 255
is delivered as 255 without a flag; both exceptions need a request that is not normalised. -/
def Obligations.UnflaggedColorIsTheUnclampedOne : Prop :=
  (∀ (c1 c2 : Color) (w1 w2 : Weight) (sh : Shift) (s : State), ∃ r, responseOf (.mixr c1 c2 w1 w2 sh) s = some r ∧
    (r.ovf = false → ∀ k, (chan r.color k).toNat = rawQ c1 c2 w1 w2 sh k) ∧
    (r.ovf = true → normalised w1 w2 sh = false)) ∧
  (∀ (c1 c2 : Color) (w1 w2 : Weight) (sh : Shift) (s : State), s.loaded = true →
    ∃ r, responseOf (.mixg c1 c2 w1 w2 sh) s = some r ∧
      (r.ovf = false → ∀ k, gammaQ s.gt c1 c2 w1 w2 sh k ≠ 255 →
        gammaQ s.gt c1 c2 w1 w2 sh k ≤ 254 ∧
        (chan r.color k).toNat = (readEntry igammaRom (BitVec.ofNat 8 (gammaQ s.gt c1 c2 w1 w2 sh k))).toNat) ∧
      (∀ k, gammaQ s.gt c1 c2 w1 w2 sh k = 255 →
        (readEntry s.igt 255#8).toNat = 256 ∧ chan r.color k = 255#8 ∧ normalised w1 w2 sh = false) ∧
      (r.ovf = true → normalised w1 w2 sh = false))

/-- R121, U1 to U4 of 93_implementation_defined.md: a normalised blend has a meaningful colour, `MIXG` once the tables are loaded; a flagged
response has none. -/
def Obligations.NormalisedColorsAreMeaningful : Prop :=
  (∀ (c1 c2 : Color) (w1 w2 : Weight) (sh : Shift) (s : State), normalised w1 w2 sh = true →
    colourMeaningful (.mixr c1 c2 w1 w2 sh) s = true ∧ (s.loaded = true → colourMeaningful (.mixg c1 c2 w1 w2 sh) s = true)) ∧
  (∀ (i : Instr) (s : State) (r : Response), responseOf i s = some r → r.ill = true ∨ r.uninit = true ∨ r.ovf = true →
    colourMeaningful i s = false)

/-! ### The constant tables -/

/-- R81: every entry of both tables is the rounded real power of its formula, round-half-up. -/
def Obligations.TablesAreTheRoundedPowers : Prop :=
  ∀ i : Index,
    ((readEntry gammaRom i).toNat : Int) = ⌊((i.toNat : ℝ) / 256) ^ (2.2 : ℝ) * 256 + 0.5⌋ ∧
    ((readEntry igammaRom i).toNat : Int) = ⌊((i.toNat : ℝ) / 256) ^ (1 / 2.2 : ℝ) * 256 + 0.5⌋

/-- R86 items 1 to 5, with the sums of R84 and R85: the facts about the two tables. -/
def Obligations.TableFacts : Prop :=
  (∀ i : Index, i ≠ 255#8 →
    (readEntry gammaRom i).toNat ≤ (readEntry gammaRom (i + 1#8)).toNat ∧
    (readEntry igammaRom i).toNat ≤ (readEntry igammaRom (i + 1#8)).toNat) ∧
  readEntry gammaRom 0#8 = 0#9 ∧ readEntry igammaRom 0#8 = 0#9 ∧ readEntry gammaRom 255#8 = 254#9 ∧ readEntry igammaRom 255#8 = 256#9 ∧
  (∀ i : Index, (readEntry gammaRom i).toNat ≤ 254 ∧ (i ≠ 255#8 → (readEntry igammaRom i).toNat ≤ 255)) ∧
  readEntry igammaRom 254#8 = 255#9 ∧
  (∀ i : Index, readEntry gammaRom i = 0#9 ↔ i.toNat ≤ 15) ∧ readEntry gammaRom 16#8 = 1#9 ∧
  gammaRom.entries.dedup.length = 184 ∧ igammaRom.entries.dedup.length = 185 ∧
  (gammaRom.entries.map BitVec.toNat).sum = 20353 ∧ (igammaRom.entries.map BitVec.toNat).sum = 44915

/-- R86 item 6: the round trip, its entries below 120 listed and the others the identity, its fixed points, its sum and its largest error. -/
def Obligations.RoundTripFacts : Prop :=
  (∀ v : Channel, (readEntry igammaRom ((readEntry gammaRom v).setWidth 8)).toNat ≤ 255) ∧
  (∀ v : Channel, 120 ≤ v.toNat → roundTrip v = v) ∧
  (List.range 120).map (fun v => (roundTrip (BitVec.ofNat 8 v)).toNat) =
    [0, 0, 0, 0, 0, 0, 0, 0, 0, 0, 0, 0, 0, 0, 0, 0] ++ [21, 21, 21, 21, 21, 21, 21, 21, 21, 28, 28, 28, 28, 28, 28, 28] ++
    [34, 34, 34, 34, 34, 39, 39, 39, 39, 43, 43, 43, 43, 46, 46, 46] ++ [46, 50, 50, 50, 53, 53, 53, 56, 56, 56, 59, 59, 61, 61, 61, 64] ++
    [64, 66, 66, 66, 68, 68, 70, 70, 73, 73, 75, 75, 77, 77, 78, 78] ++ [80, 80, 82, 82, 84, 86, 86, 87, 87, 89, 91, 91, 92, 94, 94, 95] ++
    [97, 97, 98, 99, 99, 101, 102, 104, 104, 105, 106, 108, 108, 109, 110, 111] ++ [113, 113, 114, 115, 116, 117, 118, 118] ∧
  ((List.range 256).filter fun v => roundTrip (BitVec.ofNat 8 v) = BitVec.ofNat 8 v).length = 184 ∧
  ((List.range 256).map fun v => (roundTrip (BitVec.ofNat 8 v)).toNat).sum = 32535 ∧
  (∀ v : Channel, (roundTrip v).toNat ≤ v.toNat + 15 ∧ v.toNat ≤ (roundTrip v).toNat + 15) ∧ roundTrip 15#8 = 0#8

/-! ### Reset, ports and the step -/

/-- R33: the state after reset. -/
def Obligations.ResetStateIsCleared : Prop :=
  (∀ i : Index, readEntry State.reset.gt i = 0#9 ∧ readEntry State.reset.igt i = 0#9) ∧ State.reset.inited = false ∧
  State.reset.iface = .idle ∧ State.reset.presented = none ∧ State.reset.outputs.rspValid = false

/-- R130: an edge with `rst` = 1, from any state: nothing is accepted, the cleared configuration follows, the block is not busy, and
from the first edge with `rst` = 0 it is ready and takes the next request. That the two outputs are 0 before that edge already is log
entry 15. -/
def Obligations.ResetEdgeClearsTheBlock : Prop :=
  ∀ s : State, s.ports.rst = true →
    s.outputs.reqReady = false ∧ s.outputs.rspValid = false ∧
    ∃ t, step s = .next t ∧ (∀ i : Index, readEntry t.gt i = 0#9 ∧ readEntry t.igt i = 0#9) ∧ t.inited = false ∧
      t.iface = .idle ∧ t.presented = none ∧
      (t.ports.rst = false → t.outputs.reqReady = true ∧ t.outputs.rspValid = false ∧
        (t.ports.reqValid = true → ∃ u rsp, step t = .next u ∧
          u.iface = .executing (decodeReq (requestWord t.ports)) rsp t.edge 0))

/-- R132: reset while the block is busy: the operation has no further effect, its response never reaches the host, and the state is the
cleared configuration whatever the operation was. -/
def Obligations.ResetAbandonsTheOperation : Prop :=
  ∀ s : State, s.iface.busy = true → s.ports.rst = true →
    ∃ t, step s = .next t ∧ t.cleared = true ∧ t.iface.response? = none ∧ t.taken = s.taken

/-- R67, R75: an edge that accepts a request runs the operation its word decodes to; what the edge adds around it is stated in full: the
request is no longer outstanding, the script passes on by one edge, and the edge number rises. -/
def Obligations.StepRunsTheDecodedRequest : Prop :=
  ∀ s : State, s.iface = .idle → s.ports.rst = false → s.ports.reqValid = true →
    (s.presented = none ∨ s.presented = some (requestWord s.ports)) →
    step s =
      (match exec (decodeReq (requestWord s.ports)) s with
      | .next t => .next { t with presented := none, script := t.script.tail, edge := t.edge + 1 }
      | .fault r => .fault r
      | .refused r => .refused r)

/-- The model's placement of a request (log entry 12): the placed word is decoded and run by the very next step. -/
def Obligations.PlacedRequestRunsNext : Prop :=
  ∀ (s : State) (i : Instr) (n : Nat),
    decodeTableWord n (encode i).toNat = some i ∧
    step (s.withFetchWord n (encode i).toNat) = onNext State.acceptEdge (exec i (s.present (encode i)))

/-- R67: when a request is accepted and which, when a response is accepted and which, and that the request payload is ignored while
`req_valid` = 0. -/
def Obligations.HandshakeTransfers : Prop :=
  (∀ s : State, s.breach? = none →
    (∀ i, s.edgeKind = .accept i ↔
      s.ports.rst = false ∧ s.ports.reqValid = true ∧ s.outputs.reqReady = true ∧ i = decodeReq (requestWord s.ports)) ∧
    (∀ r, s.edgeKind = .deliver r ↔ s.ports.rst = false ∧ s.outputs.rspValid = true ∧ s.ports.rspReady = true ∧
      r = { ill := s.outputs.rspIll, uninit := s.outputs.rspUninit, ovf := s.outputs.rspOvf, color := s.outputs.rspColor })) ∧
  (∀ (s : State) (p q : PortIn) (rest : List PortIn), p.reqValid = false → q.reqValid = false → p.rst = q.rst → p.rspReady = q.rspReady →
    step { s with script := p :: rest } = step { s with script := q :: rest })

/-- R68: the host that withdraws or alters a request it raised has no move, and only such a host; what is outstanding after an edge is
what the host showed and the block did not accept; the outputs do not depend on what the host shows. The two refusals by name and the
field for what is outstanding are log entry 9; that the response payload while `rsp_valid` = 0 depends on nothing but the edge number, so
not on the host's ports, is log entry 10. -/
def Obligations.HostMustHoldItsRequest : Prop :=
  (∀ (s : State) (f : Refusal), step s = .refused f ↔ s.ports.rst = false ∧ ∃ w, s.presented = some w ∧
    ((f = .requestWithdrawn ∧ s.ports.reqValid = false) ∨
     (f = .requestAltered ∧ s.ports.reqValid = true ∧ requestWord s.ports ≠ w))) ∧
  (∀ (s t : State) (w : ReqWord), step s = .next t →
    (t.presented = some w ↔ s.ports.rst = false ∧ s.ports.reqValid = true ∧ requestWord s.ports = w ∧ s.outputs.reqReady = false)) ∧
  (∀ (s : State) (p q : PortIn) (rest : List PortIn), p.rst = q.rst →
    State.outputs { s with script := p :: rest } = State.outputs { s with script := q :: rest })

/-- R69: with `rst` = 0 the block is ready exactly when it is not busy, it is busy after the edge that accepts a request, and
while it is busy no edge accepts a request: the tables and `inited` stay, and the held response stays until it is taken.
That the tables do not change between acceptance and response, for `INIT` too, is log entry 2; that the block is idle after the delivering
edge whatever the host presents there is log entry 5. -/
def Obligations.BusyBlockAcceptsNothing : Prop :=
  (∀ s : State, s.ports.rst = false → (s.outputs.reqReady = true ↔ s.iface.busy = false)) ∧
  (∀ (s : State) (i : Instr), s.edgeKind = .accept i → ∃ t, step s = .next t ∧ t.iface.busy = true) ∧
  (∀ s t : State, s.ports.rst = false → s.iface.busy = true → step s = .next t →
    t.arch = s.arch ∧
    (t.iface.response? = s.iface.response? ∨
      (s.outputs.rspValid = true ∧ s.ports.rspReady = true ∧ t.iface = .idle)))

/-- R70: a valid response stays valid and unchanged for as long as the host does not take it, and is taken exactly once. That the block is
idle after the delivering edge whatever the host presents there is log entry 5; that the tables stay while the response is held, for
`INIT` too, is log entry 2; the taken list is the model's (log entry 8). -/
def Obligations.ResponseIsHeldUntilTaken : Prop :=
  ∀ (s : State) (r : Response), s.iface = .responding r → s.ports.rst = false → s.breach? = none →
    s.outputs = { reqReady := false, rspValid := true, rspIll := r.ill, rspUninit := r.uninit, rspOvf := r.ovf, rspColor := r.color } ∧
    (s.ports.rspReady = false → ∃ t, step s = .next t ∧ t.iface = .responding r ∧ t.taken = s.taken ∧ t.arch = s.arch) ∧
    (s.ports.rspReady = true → ∃ t, step s = .next t ∧ t.iface = .idle ∧ t.taken = s.taken ++ [responseWord r] ∧ t.arch = s.arch ∧
      t.outputs.rspValid = false)

/-- R110: the machine never faults; a step is refused only at an edge where the host broke its duty; every operation determines exactly one
response. -/
def Obligations.EveryRequestIsAnswered : Prop :=
  (∀ s : State, s.ports.rst = true ∨ s.breach? = none → ∃ t, step s = .next t) ∧
  (∀ (s : State) (f : Fault), step s ≠ .fault f) ∧
  (∀ (i : Instr) (s : State), ∃ t r, exec i s = .next t ∧ t.iface.response? = some r)

/-- V72 of 95_test_vectors.md, R67: an edge without a request and without reset leaves a block that is not busy as it was. -/
def Obligations.QuietEdgeChangesNothing : Prop :=
  ∀ s : State, s.iface = .idle → s.presented = none → s.ports.rst = false → s.ports.reqValid = false →
    s.outputs.reqReady = true ∧ step s = .next { s with script := s.script.tail, edge := s.edge + 1 }

/-- R22, R23, R24: only `INIT` and reset write a table or `inited`; `INIT` sets `inited` and only reset clears it. That `INIT` does so at the
edge that accepts it is the model's choice (log entry 2). -/
def Obligations.OnlyInitAndResetWriteTheTables : Prop :=
  (∀ s t : State, step s = .next t →
    ((∃ a : Index, readEntry t.gt a ≠ readEntry s.gt a ∨ readEntry t.igt a ≠ readEntry s.igt a) ∨ t.inited ≠ s.inited) →
    s.ports.rst = true ∨ ∃ x, s.edgeKind = .accept (.init x)) ∧
  (∀ s t : State, step s = .next t → s.inited = true → t.inited = false → s.ports.rst = true) ∧
  (∀ (x : BitVec 87) (s : State), s.edgeKind = .accept (.init x) → ∃ t, step s = .next t ∧ t.inited = true ∧
    ∀ a : Index, readEntry t.gt a = readEntry gammaRom a ∧ readEntry t.igt a = readEntry igammaRom a)

/-- R32, R114 (an invariant): from any state in a reachable configuration whose held and taken responses carry at most one flag, every edge
leads to such a state. -/
def Obligations.EveryEdgeKeepsTheConfiguration : Prop :=
  ∀ s t : State, s.inv = true → step s = .next t → t.inv = true

/-- R32: the invariant holds at reset. -/
def Obligations.ResetMeetsTheConfiguration : Prop :=
  State.reset.inv = true ∧ State.reset.cleared = true

/-- R46, R31: an edge is one move of the transaction machine: a reset, one whole operation, the delivery of its response, or a move that
leaves the architectural state, the held response and the taken words as they were (the edge at which a response becomes valid is one).
That the whole effect falls on the accepting edge is log entry 2; that a delivering edge never accepts a request as well is log entry 5;
the taken list is the model's (log entry 8). -/
def Obligations.EveryEdgeIsOneTransactionMove : Prop :=
  ∀ s t : State, step s = .next t →
    (s.ports.rst = true ∧ t.arch = Arch.clear ∧ t.iface.response? = none ∧ t.taken = s.taken) ∨
    (∃ i, s.edgeKind = .accept i ∧ t.arch = s.arch.after i ∧ t.iface = .executing i (s.arch.answer i) s.edge 0 ∧ t.taken = s.taken) ∨
    (∃ r, s.edgeKind = .deliver r ∧ s.iface.response? = some r ∧ t.arch = s.arch ∧ t.iface.response? = none ∧
      t.taken = s.taken ++ [responseWord r]) ∨
    (t.arch = s.arch ∧ t.iface.response? = s.iface.response? ∧ t.taken = s.taken)

/-- R136, R92: the response and the effect of an operation are functions of the request and of the architectural state alone: no latency,
no edge number and no host behaviour enters. -/
def Obligations.ResultsDoNotDependOnTiming : Prop :=
  ∀ (i : Instr) (s u : State), s.arch = u.arch →
    ∃ t v r, exec i s = .next t ∧ exec i u = .next v ∧ t.arch = v.arch ∧ t.iface.response? = some r ∧ v.iface.response? = some r

/-- R140, R141: for a host that does not reset and holds what it shows, the response of an accepted request becomes valid exactly its
latency of edges after the acceptance, a latency of at least 1; until then no response is valid. The latency itself is a free value (log entry 3), the edges are counted
as log entry 4 says, and that the tables and `inited` stay meanwhile, for `INIT` too, is log entry 2. -/
def Obligations.ResponseBecomesValidAfterItsLatency : Prop :=
  ∀ (s : State) (i : Instr) (r : Response) (d : Nat) (shown : Option ReqWord),
    s.iface = .executing i r d 0 → (s.presented = none ∨ s.presented = shown) →
    (∀ k, k < latency i d → (s.script.getD k quietEdge).rst = false ∧ shownRequest (s.script.getD k quietEdge) = shown) →
    1 ≤ latency i d ∧
    (∀ k, k < latency i d → ∃ u, run k s = .next u ∧ u.outputs.rspValid = false) ∧
    ∃ t, run (latency i d) s = .next t ∧ t.iface = .responding r ∧ t.arch = s.arch ∧ t.taken = s.taken

/-- R46 (d), R138, R139: any list of requests, presented by any host that does its duties and asserts no reset (each request raised at any
edge after the previous acceptance, while the block is busy or later, and held until it is accepted; each valid response left waiting for
any number of edges; `rsp_ready` anything at the edges without a valid response), is answered in order, one response a request, each
response and the last state being those of the requests executed one at a time; the run ends quiescent. Latencies are free values (log
entry 3); the edges are counted as log entries 4 and 5 say, and the end of the run is that of log entry 20. -/
def Obligations.RequestsAreAnsweredInOrder : Prop :=
  ∀ (s : State) (turns : List Turn) (ready : Nat → Bool),
    s.iface = .idle → s.presented = none → s.script = hostScript ready 0 turns s.edge →
    ∃ t, run s.script.length s = .next t ∧
      t.taken = s.taken ++ (s.arch.answers (turns.map Turn.request)).map responseWord ∧
      t.arch = s.arch.afterAll (turns.map Turn.request) ∧ t.quiescent = true

/-- R46: over any run of edges without a reset, from any state and whatever the inputs, the requests accepted have been executed one at a
time in the order of their acceptance: the architectural state is theirs, and the responses taken, with the one still held, are those
there were and then theirs, in order. The effect falls on the accepting edge (log entry 2); the taken list is the model's (log entry 8). -/
def Obligations.AcceptedRequestsAreAnsweredInOrder : Prop :=
  ∀ (k : Nat) (s t : State), (∀ j, j < k → (s.script.getD j quietEdge).rst = false) → run k s = .next t →
    t.arch = s.arch.afterAll (accepted k s) ∧
    t.taken ++ t.held = s.taken ++ s.held ++ (s.arch.answers (accepted k s)).map responseWord
end

