-- ==== Sys2Proof/Laws/State.lean ====
section
/-! SUPPORT. One lemma per field of State per update, each by unfolding the update once, so that no later proof does. -/

namespace Sys2Proof.Machine

@[simp] theorem State.withTables_gt (s : State) (gt igt : Table) (b : Bool) : (s.withTables gt igt b).gt = gt := rfl
@[simp] theorem State.withTables_igt (s : State) (gt igt : Table) (b : Bool) : (s.withTables gt igt b).igt = igt := rfl
@[simp] theorem State.withTables_inited (s : State) (gt igt : Table) (b : Bool) : (s.withTables gt igt b).inited = b := rfl
@[simp] theorem State.withTables_iface (s : State) (gt igt : Table) (b : Bool) : (s.withTables gt igt b).iface = s.iface := rfl
@[simp] theorem State.withTables_presented (s : State) (gt igt : Table) (b : Bool) : (s.withTables gt igt b).presented = s.presented := rfl
@[simp] theorem State.withTables_script (s : State) (gt igt : Table) (b : Bool) : (s.withTables gt igt b).script = s.script := rfl
@[simp] theorem State.withTables_taken (s : State) (gt igt : Table) (b : Bool) : (s.withTables gt igt b).taken = s.taken := rfl
@[simp] theorem State.withTables_edge (s : State) (gt igt : Table) (b : Bool) : (s.withTables gt igt b).edge = s.edge := rfl

@[simp] theorem State.withInterface_gt (s : State) (x : Interface) : (s.withInterface x).gt = s.gt := rfl
@[simp] theorem State.withInterface_igt (s : State) (x : Interface) : (s.withInterface x).igt = s.igt := rfl
@[simp] theorem State.withInterface_inited (s : State) (x : Interface) : (s.withInterface x).inited = s.inited := rfl
@[simp] theorem State.withInterface_iface (s : State) (x : Interface) : (s.withInterface x).iface = x := rfl
@[simp] theorem State.withInterface_presented (s : State) (x : Interface) : (s.withInterface x).presented = s.presented := rfl
@[simp] theorem State.withInterface_script (s : State) (x : Interface) : (s.withInterface x).script = s.script := rfl
@[simp] theorem State.withInterface_taken (s : State) (x : Interface) : (s.withInterface x).taken = s.taken := rfl
@[simp] theorem State.withInterface_edge (s : State) (x : Interface) : (s.withInterface x).edge = s.edge := rfl

@[simp] theorem State.withPresented_gt (s : State) (p : Option ReqWord) : (s.withPresented p).gt = s.gt := rfl
@[simp] theorem State.withPresented_igt (s : State) (p : Option ReqWord) : (s.withPresented p).igt = s.igt := rfl
@[simp] theorem State.withPresented_inited (s : State) (p : Option ReqWord) : (s.withPresented p).inited = s.inited := rfl
@[simp] theorem State.withPresented_iface (s : State) (p : Option ReqWord) : (s.withPresented p).iface = s.iface := rfl
@[simp] theorem State.withPresented_presented (s : State) (p : Option ReqWord) : (s.withPresented p).presented = p := rfl
@[simp] theorem State.withPresented_script (s : State) (p : Option ReqWord) : (s.withPresented p).script = s.script := rfl
@[simp] theorem State.withPresented_taken (s : State) (p : Option ReqWord) : (s.withPresented p).taken = s.taken := rfl
@[simp] theorem State.withPresented_edge (s : State) (p : Option ReqWord) : (s.withPresented p).edge = s.edge := rfl

@[simp] theorem State.pastEdge_gt (s : State) : s.pastEdge.gt = s.gt := rfl
@[simp] theorem State.pastEdge_igt (s : State) : s.pastEdge.igt = s.igt := rfl
@[simp] theorem State.pastEdge_inited (s : State) : s.pastEdge.inited = s.inited := rfl
@[simp] theorem State.pastEdge_iface (s : State) : s.pastEdge.iface = s.iface := rfl
@[simp] theorem State.pastEdge_presented (s : State) : s.pastEdge.presented = s.presented := rfl
@[simp] theorem State.pastEdge_script (s : State) : s.pastEdge.script = s.script.tail := rfl
@[simp] theorem State.pastEdge_taken (s : State) : s.pastEdge.taken = s.taken := rfl
@[simp] theorem State.pastEdge_edge (s : State) : s.pastEdge.edge = s.edge + 1 := rfl

@[simp] theorem State.record_gt (s : State) (w : RspWord) : (s.record w).gt = s.gt := rfl
@[simp] theorem State.record_igt (s : State) (w : RspWord) : (s.record w).igt = s.igt := rfl
@[simp] theorem State.record_inited (s : State) (w : RspWord) : (s.record w).inited = s.inited := rfl
@[simp] theorem State.record_iface (s : State) (w : RspWord) : (s.record w).iface = s.iface := rfl
@[simp] theorem State.record_presented (s : State) (w : RspWord) : (s.record w).presented = s.presented := rfl
@[simp] theorem State.record_script (s : State) (w : RspWord) : (s.record w).script = s.script := rfl
@[simp] theorem State.record_taken (s : State) (w : RspWord) : (s.record w).taken = s.taken ++ [w] := rfl
@[simp] theorem State.record_edge (s : State) (w : RspWord) : (s.record w).edge = s.edge := rfl

@[simp] theorem State.respond_gt (s : State) (req : Instr) (rsp : Response) : (s.respond req rsp).gt = s.gt := rfl
@[simp] theorem State.respond_igt (s : State) (req : Instr) (rsp : Response) : (s.respond req rsp).igt = s.igt := rfl
@[simp] theorem State.respond_inited (s : State) (req : Instr) (rsp : Response) : (s.respond req rsp).inited = s.inited := rfl
@[simp] theorem State.respond_iface (s : State) (req : Instr) (rsp : Response) : (s.respond req rsp).iface = .executing req rsp s.edge 0 := rfl
@[simp] theorem State.respond_presented (s : State) (req : Instr) (rsp : Response) : (s.respond req rsp).presented = s.presented := rfl
@[simp] theorem State.respond_script (s : State) (req : Instr) (rsp : Response) : (s.respond req rsp).script = s.script := rfl
@[simp] theorem State.respond_taken (s : State) (req : Instr) (rsp : Response) : (s.respond req rsp).taken = s.taken := rfl
@[simp] theorem State.respond_edge (s : State) (req : Instr) (rsp : Response) : (s.respond req rsp).edge = s.edge := rfl

@[simp] theorem State.loadTables_gt (s : State) : s.loadTables.gt = gammaRom := rfl
@[simp] theorem State.loadTables_igt (s : State) : s.loadTables.igt = igammaRom := rfl
@[simp] theorem State.loadTables_inited (s : State) : s.loadTables.inited = true := rfl
@[simp] theorem State.loadTables_iface (s : State) : s.loadTables.iface = s.iface := rfl
@[simp] theorem State.loadTables_presented (s : State) : s.loadTables.presented = s.presented := rfl
@[simp] theorem State.loadTables_script (s : State) : s.loadTables.script = s.script := rfl
@[simp] theorem State.loadTables_taken (s : State) : s.loadTables.taken = s.taken := rfl
@[simp] theorem State.loadTables_edge (s : State) : s.loadTables.edge = s.edge := rfl

@[simp] theorem State.clearTables_gt (s : State) : s.clearTables.gt = zeroTable := rfl
@[simp] theorem State.clearTables_igt (s : State) : s.clearTables.igt = zeroTable := rfl
@[simp] theorem State.clearTables_inited (s : State) : s.clearTables.inited = false := rfl
@[simp] theorem State.clearTables_iface (s : State) : s.clearTables.iface = s.iface := rfl
@[simp] theorem State.clearTables_presented (s : State) : s.clearTables.presented = s.presented := rfl
@[simp] theorem State.clearTables_script (s : State) : s.clearTables.script = s.script := rfl
@[simp] theorem State.clearTables_taken (s : State) : s.clearTables.taken = s.taken := rfl
@[simp] theorem State.clearTables_edge (s : State) : s.clearTables.edge = s.edge := rfl

@[simp] theorem State.resetEdge_gt (s : State) : s.resetEdge.gt = zeroTable := rfl
@[simp] theorem State.resetEdge_igt (s : State) : s.resetEdge.igt = zeroTable := rfl
@[simp] theorem State.resetEdge_inited (s : State) : s.resetEdge.inited = false := rfl
@[simp] theorem State.resetEdge_iface (s : State) : s.resetEdge.iface = .idle := rfl
@[simp] theorem State.resetEdge_presented (s : State) : s.resetEdge.presented = none := rfl
@[simp] theorem State.resetEdge_script (s : State) : s.resetEdge.script = s.script.tail := rfl
@[simp] theorem State.resetEdge_taken (s : State) : s.resetEdge.taken = s.taken := rfl
@[simp] theorem State.resetEdge_edge (s : State) : s.resetEdge.edge = s.edge + 1 := rfl

@[simp] theorem State.acceptEdge_gt (s : State) : s.acceptEdge.gt = s.gt := rfl
@[simp] theorem State.acceptEdge_igt (s : State) : s.acceptEdge.igt = s.igt := rfl
@[simp] theorem State.acceptEdge_inited (s : State) : s.acceptEdge.inited = s.inited := rfl
@[simp] theorem State.acceptEdge_iface (s : State) : s.acceptEdge.iface = s.iface := rfl
@[simp] theorem State.acceptEdge_presented (s : State) : s.acceptEdge.presented = none := rfl
@[simp] theorem State.acceptEdge_script (s : State) : s.acceptEdge.script = s.script.tail := rfl
@[simp] theorem State.acceptEdge_taken (s : State) : s.acceptEdge.taken = s.taken := rfl
@[simp] theorem State.acceptEdge_edge (s : State) : s.acceptEdge.edge = s.edge + 1 := rfl

@[simp] theorem State.otherEdge_gt (s : State) : s.otherEdge.gt = s.gt := rfl
@[simp] theorem State.otherEdge_igt (s : State) : s.otherEdge.igt = s.igt := rfl
@[simp] theorem State.otherEdge_inited (s : State) : s.otherEdge.inited = s.inited := rfl
@[simp] theorem State.otherEdge_iface (s : State) : s.otherEdge.iface = s.iface := rfl
@[simp] theorem State.otherEdge_presented (s : State) : s.otherEdge.presented = shownRequest s.ports := rfl
@[simp] theorem State.otherEdge_script (s : State) : s.otherEdge.script = s.script.tail := rfl
@[simp] theorem State.otherEdge_taken (s : State) : s.otherEdge.taken = s.taken := rfl
@[simp] theorem State.otherEdge_edge (s : State) : s.otherEdge.edge = s.edge + 1 := rfl

@[simp] theorem State.workEdge_gt (s : State) (req : Instr) (rsp : Response) (draw age : Nat) : (s.workEdge req rsp draw age).gt = s.gt := rfl
@[simp] theorem State.workEdge_igt (s : State) (req : Instr) (rsp : Response) (draw age : Nat) : (s.workEdge req rsp draw age).igt = s.igt := rfl
@[simp] theorem State.workEdge_inited (s : State) (req : Instr) (rsp : Response) (draw age : Nat) : (s.workEdge req rsp draw age).inited = s.inited := rfl
@[simp] theorem State.workEdge_iface (s : State) (req : Instr) (rsp : Response) (draw age : Nat) : (s.workEdge req rsp draw age).iface = .executing req rsp draw (age + 1) := rfl
@[simp] theorem State.workEdge_presented (s : State) (req : Instr) (rsp : Response) (draw age : Nat) : (s.workEdge req rsp draw age).presented = shownRequest s.ports := rfl
@[simp] theorem State.workEdge_script (s : State) (req : Instr) (rsp : Response) (draw age : Nat) : (s.workEdge req rsp draw age).script = s.script.tail := rfl
@[simp] theorem State.workEdge_taken (s : State) (req : Instr) (rsp : Response) (draw age : Nat) : (s.workEdge req rsp draw age).taken = s.taken := rfl
@[simp] theorem State.workEdge_edge (s : State) (req : Instr) (rsp : Response) (draw age : Nat) : (s.workEdge req rsp draw age).edge = s.edge + 1 := rfl

@[simp] theorem State.completeEdge_gt (s : State) (rsp : Response) : (s.completeEdge rsp).gt = s.gt := rfl
@[simp] theorem State.completeEdge_igt (s : State) (rsp : Response) : (s.completeEdge rsp).igt = s.igt := rfl
@[simp] theorem State.completeEdge_inited (s : State) (rsp : Response) : (s.completeEdge rsp).inited = s.inited := rfl
@[simp] theorem State.completeEdge_iface (s : State) (rsp : Response) : (s.completeEdge rsp).iface = .responding rsp := rfl
@[simp] theorem State.completeEdge_presented (s : State) (rsp : Response) : (s.completeEdge rsp).presented = shownRequest s.ports := rfl
@[simp] theorem State.completeEdge_script (s : State) (rsp : Response) : (s.completeEdge rsp).script = s.script.tail := rfl
@[simp] theorem State.completeEdge_taken (s : State) (rsp : Response) : (s.completeEdge rsp).taken = s.taken := rfl
@[simp] theorem State.completeEdge_edge (s : State) (rsp : Response) : (s.completeEdge rsp).edge = s.edge + 1 := rfl

@[simp] theorem State.deliverEdge_gt (s : State) (rsp : Response) : (s.deliverEdge rsp).gt = s.gt := rfl
@[simp] theorem State.deliverEdge_igt (s : State) (rsp : Response) : (s.deliverEdge rsp).igt = s.igt := rfl
@[simp] theorem State.deliverEdge_inited (s : State) (rsp : Response) : (s.deliverEdge rsp).inited = s.inited := rfl
@[simp] theorem State.deliverEdge_iface (s : State) (rsp : Response) : (s.deliverEdge rsp).iface = .idle := rfl
@[simp] theorem State.deliverEdge_presented (s : State) (rsp : Response) : (s.deliverEdge rsp).presented = shownRequest s.ports := rfl
@[simp] theorem State.deliverEdge_script (s : State) (rsp : Response) : (s.deliverEdge rsp).script = s.script.tail := rfl
@[simp] theorem State.deliverEdge_taken (s : State) (rsp : Response) : (s.deliverEdge rsp).taken = s.taken ++ [responseWord rsp] := rfl
@[simp] theorem State.deliverEdge_edge (s : State) (rsp : Response) : (s.deliverEdge rsp).edge = s.edge + 1 := rfl

@[simp] theorem State.present_gt (s : State) (w : ReqWord) : (s.present w).gt = s.gt := rfl
@[simp] theorem State.present_igt (s : State) (w : ReqWord) : (s.present w).igt = s.igt := rfl
@[simp] theorem State.present_inited (s : State) (w : ReqWord) : (s.present w).inited = s.inited := rfl
@[simp] theorem State.present_iface (s : State) (w : ReqWord) : (s.present w).iface = .idle := rfl
@[simp] theorem State.present_presented (s : State) (w : ReqWord) : (s.present w).presented = none := rfl
@[simp] theorem State.present_script (s : State) (w : ReqWord) : (s.present w).script = requestEdge w :: s.script := rfl
@[simp] theorem State.present_taken (s : State) (w : ReqWord) : (s.present w).taken = s.taken := rfl
@[simp] theorem State.present_edge (s : State) (w : ReqWord) : (s.present w).edge = s.edge := rfl

end Sys2Proof.Machine
end

