-- ==== Sys2Proof/Laws/Ops.lean ====
section
/-! SUPPORT. One lemma per shared operation: what it can do, said once, so that later proofs cite it and do not unfold it. -/

namespace Sys2Proof.Machine

/-- `saturate` is `min(v, 255)` (41_blend.md R93). -/
theorem saturate_toNat {n : Nat} (v : BitVec n) : (saturate v).toNat = min v.toNat 255 := by
  unfold saturate
  split
  · next h => simp; omega
  · next h => rw [BitVec.toNat_setWidth, Nat.mod_eq_of_lt (by omega)]; omega

theorem exceeds_iff (q : Acc) : exceeds q = true ↔ 255 < q.toNat := by simp [exceeds]

theorem readEntry_zeroTable (i : Index) : readEntry zeroTable i = 0#9 :=
  List.getElem_replicate _

/-- Two tables with the same entries are the same table. -/
theorem table_ext {t u : Table} (h : ∀ i : Index, readEntry t i = readEntry u i) : t = u := by
  obtain ⟨t, ht⟩ := t
  obtain ⟨u, hu⟩ := u
  congr
  refine List.ext_getElem (ht.trans hu.symm) fun n h1 _ => ?_
  simpa [readEntry, Nat.mod_eq_of_lt (ht ▸ h1 : n < 256)] using h (BitVec.ofNat 8 n)

/-- An outcome after `onNext` is a next state exactly when the outcome before it was. -/
theorem onNext_eq_next {f : State → State} {o : Host.Outcome State Fault Refusal} {t : State} :
    onNext f o = .next t ↔ ∃ u, o = .next u ∧ t = f u := by
  cases o <;> simp [onNext, eq_comm]

/-- Every operation ends with its response determined and its effect on the tables done (60_exceptions.md R110, R121). -/
theorem exec_eq (i : Instr) (s : State) :
    exec i s = .next ((s.withTables (s.arch.after i).gt (s.arch.after i).igt (s.arch.after i).inited).respond i (s.arch.answer i)) := by
  cases i <;> rfl

/-- Everything an edge can do when it answers a next state: the kinds of edge, each with the state it leaves. -/
theorem step_cases {s t : State} (h : step s = .next t) :
    (s.edgeKind = .reset ∧ t = s.resetEdge) ∨
    (∃ i u, s.edgeKind = .accept i ∧ exec i s = .next u ∧ t = u.acceptEdge) ∨
    (s.edgeKind = .idle ∧ t = s.otherEdge) ∨
    (∃ req rsp draw age, s.edgeKind = .work req rsp draw age ∧ t = s.workEdge req rsp draw age) ∨
    (∃ rsp, s.edgeKind = .complete rsp ∧ t = s.completeEdge rsp) ∨
    (∃ rsp, s.edgeKind = .deliver rsp ∧ t = s.deliverEdge rsp) ∨
    (s.edgeKind = .wait ∧ t = s.otherEdge) := by
  unfold step at h
  cases hk : s.edgeKind with
  | accept i =>
    rw [hk] at h
    obtain ⟨u, hu, ht⟩ := onNext_eq_next.mp h
    exact .inr (.inl ⟨i, u, rfl, hu, ht⟩)
  | breach r => simp [hk] at h
  | _ => simp only [hk, Host.Outcome.next.injEq] at h; simp [← h]

/-- A run of one edge more is the run and then a step. -/
theorem run_succ {k : Nat} {s u : State} (h : run k s = .next u) : run (k + 1) s = step u := by
  induction k generalizing s with
  | zero => cases h; simp only [run]; cases step u <;> simp
  | succ n ih =>
    rw [run] at h ⊢
    cases hs : step s with
    | next t => rw [hs] at h; exact ih h
    | fault r => cases r
    | refused r => rw [hs] at h; cases h

/-- A run is its beginning and then the rest. -/
theorem run_add {a b : Nat} {s u : State} (h : run a s = .next u) : run (a + b) s = run b u := by
  induction a generalizing s with
  | zero => cases h; rw [Nat.zero_add]
  | succ n ih =>
    rw [Nat.succ_add, run] at *
    cases hs : step s with
    | next t => rw [hs] at h; exact ih h
    | fault r => cases r
    | refused r => rw [hs] at h; cases h

/-- An edge is a reset edge exactly when `rst` = 1 (70_reset_and_hazards.md R130). -/
theorem edgeKind_reset {s : State} : s.edgeKind = .reset ↔ s.ports.rst = true := by
  unfold State.edgeKind
  cases s.ports.rst <;> cases s.breach? <;> cases s.iface <;> simp
  all_goals split <;> simp

/-- When the host has no move (30_encoding.md R68). -/
theorem edgeKind_breach {s : State} {f : Refusal} : s.edgeKind = .breach f ↔ s.ports.rst = false ∧ s.breach? = some f := by
  unfold State.edgeKind
  cases s.ports.rst <;> cases s.breach? <;> cases s.iface <;> simp
  all_goals split <;> simp

/-- When an edge accepts a request (30_encoding.md R67). -/
theorem edgeKind_accept {s : State} {i : Instr} :
    s.edgeKind = .accept i ↔
      s.ports.rst = false ∧ s.breach? = none ∧ s.iface = .idle ∧ s.ports.reqValid = true ∧ i = decodeReq (requestWord s.ports) := by
  unfold State.edgeKind
  cases s.ports.rst <;> cases s.breach? <;> cases s.iface <;> simp
  · cases s.ports.reqValid <;> simp [eq_comm]
  all_goals split <;> simp

/-- When nothing happens (30_encoding.md R67). -/
theorem edgeKind_idle {s : State} :
    s.edgeKind = .idle ↔ s.ports.rst = false ∧ s.breach? = none ∧ s.iface = .idle ∧ s.ports.reqValid = false := by
  unfold State.edgeKind
  cases s.ports.rst <;> cases s.breach? <;> cases s.iface <;> simp
  all_goals split <;> simp

/-- When an operation goes on for at least another edge (70_reset_and_hazards.md R140). -/
theorem edgeKind_work {s : State} {i : Instr} {r : Response} {d a : Nat} :
    s.edgeKind = .work i r d a ↔
      s.ports.rst = false ∧ s.breach? = none ∧ s.iface = .executing i r d a ∧ a + 1 < latency i d := by
  unfold State.edgeKind
  cases s.ports.rst <;> cases s.breach? <;> cases s.iface <;> simp
  · cases s.ports.reqValid <;> simp
  · split <;> grind
  · split <;> simp

/-- When a response becomes valid (30_encoding.md R70, 70_reset_and_hazards.md R140). -/
theorem edgeKind_complete {s : State} {r : Response} :
    s.edgeKind = .complete r ↔
      s.ports.rst = false ∧ s.breach? = none ∧ ∃ i d a, s.iface = .executing i r d a ∧ latency i d ≤ a + 1 := by
  unfold State.edgeKind
  cases s.ports.rst <;> cases s.breach? <;> cases s.iface <;> simp
  · cases s.ports.reqValid <;> simp
  · split <;> grind
  · split <;> simp

/-- When an edge delivers a response (30_encoding.md R67). -/
theorem edgeKind_deliver {s : State} {r : Response} :
    s.edgeKind = .deliver r ↔
      s.ports.rst = false ∧ s.breach? = none ∧ s.iface = .responding r ∧ s.ports.rspReady = true := by
  unfold State.edgeKind
  cases s.ports.rst <;> cases s.breach? <;> cases s.iface <;> simp
  · cases s.ports.reqValid <;> simp
  · split <;> simp
  · split <;> simp_all

/-- When a response is held (30_encoding.md R70). -/
theorem edgeKind_wait {s : State} :
    s.edgeKind = .wait ↔
      s.ports.rst = false ∧ s.breach? = none ∧ (∃ r, s.iface = .responding r) ∧ s.ports.rspReady = false := by
  unfold State.edgeKind
  cases s.ports.rst <;> cases s.breach? <;> cases s.iface <;> simp
  · cases s.ports.reqValid <;> simp
  · split <;> simp

/-- `req_ready` as a port (30_encoding.md R69, 70_reset_and_hazards.md R130). -/
theorem outputs_reqReady (s : State) : s.outputs.reqReady = (!s.iface.busy && !s.ports.rst) := by
  unfold State.outputs
  split <;> rfl

/-- When `rsp_valid` is 1 (30_encoding.md R70, 70_reset_and_hazards.md R130). -/
theorem outputs_rspValid (s : State) : s.outputs.rspValid = true ↔ s.ports.rst = false ∧ ∃ r, s.iface = .responding r := by
  unfold State.outputs State.shownResponse
  cases hr : s.ports.rst <;> cases s.iface <;> simp

/-- The ports while a response is held (30_encoding.md R70). -/
theorem outputs_responding {s : State} {r : Response} (hi : s.iface = .responding r) (hr : s.ports.rst = false) :
    s.outputs =
      { reqReady := false, rspValid := true, rspIll := r.ill, rspUninit := r.uninit, rspOvf := r.ovf, rspColor := r.color } := by
  simp [State.outputs, State.shownResponse, State.reqReady, hi, hr, Interface.busy]

/-- The ports of `requestEdge w` carry `w` (30_encoding.md R61). -/
theorem requestWord_requestEdge (w : ReqWord) : requestWord (requestEdge w) = w := by
  simp only [requestWord, requestEdge, packRequest, reqOp, reqColor1, reqColor2, reqWeight1, reqWeight2, reqShift]
  ext j hj
  simp; grind

@[simp] theorem hostEdge_rst (w : Option ReqWord) (b : Bool) : (hostEdge w b).rst = false := by cases w <;> rfl

@[simp] theorem hostEdge_rspReady (w : Option ReqWord) (b : Bool) : (hostEdge w b).rspReady = b := by cases w <;> rfl

/-- What a host edge shows (30_encoding.md R67). -/
@[simp] theorem shownRequest_hostEdge (w : Option ReqWord) (b : Bool) : shownRequest (hostEdge w b) = w := by
  cases w with
  | none => rfl
  | some w => exact congrArg some (requestWord_requestEdge w)

/-- A host that still shows what is outstanding has broken no duty (30_encoding.md R68). -/
theorem breach_none {s : State} (h : s.presented = none ∨ s.presented = shownRequest s.ports) : s.breach? = none := by
  unfold State.breach? shownRequest at *
  rcases h with h | h
  · simp [h]
  · cases hv : s.ports.reqValid <;> simp [h, hv]

end Sys2Proof.Machine
end

