-- ==== Sys2Proof/Laws/PerInstr.lean ====
section
/-! SUPPORT. Statements for all operations, one lemma per constructor. -/

namespace Sys2Proof.Laws.OpcodeBits

/-- Bits 88:87 of the word of an operation hold its code (30_encoding.md R61, R62). -/
def Statement (i : Instr) : Prop := reqOp (encode i) = opcodeOf i

theorem mixr (c1 c2 : Color) (w1 w2 : Weight) (s : Shift) : Statement (.mixr c1 c2 w1 w2 s) := by
  simp only [Statement, encode, packRequest, reqOp, opcodeOf]; ext j hj; simp; grind

theorem mixg (c1 c2 : Color) (w1 w2 : Weight) (s : Shift) : Statement (.mixg c1 c2 w1 w2 s) := by
  simp only [Statement, encode, packRequest, reqOp, opcodeOf]; ext j hj; simp; grind

theorem init (ignored : BitVec 87) : Statement (.init ignored) := by
  simp only [Statement, encode, reqOp, opcodeOf]; ext j hj; simp; grind

theorem rsvd (ignored : BitVec 87) : Statement (.rsvd ignored) := by
  simp only [Statement, encode, reqOp, opcodeOf]; ext j hj; simp; grind

end Sys2Proof.Laws.OpcodeBits
end

