-- ==== Sys2Proof/Machine/Text.lean ====
section
/-! DEFINITION. The spelling of program lines and of responses (30_encoding.md R71, R72), over lists of characters. -/

namespace Sys2Proof.Machine

/-- The tokens of a line: what stands between spaces and commas. -/
def tokens : List Char → List (List Char)
  | [] => []
  | c :: rest =>
    if c = ' ' ∨ c = ',' then [] :: tokens rest
    else match tokens rest with
      | [] => [[c]]
      | t :: ts => (c :: t) :: ts

/-- The value of a hexadecimal digit, of either case. -/
def hexDigit? (c : Char) : Option Nat :=
  if '0' ≤ c ∧ c ≤ '9' then some (c.toNat - '0'.toNat)
  else if 'a' ≤ c ∧ c ≤ 'f' then some (c.toNat - 'a'.toNat + 10)
  else if 'A' ≤ c ∧ c ≤ 'F' then some (c.toNat - 'A'.toNat + 10)
  else none

/-- The value of a decimal digit. -/
def decDigit? (c : Char) : Option Nat := if '0' ≤ c ∧ c ≤ '9' then some (c.toNat - '0'.toNat) else none

/-- A numeral of base `b`, most significant digit first, continuing from `acc`. -/
def numeralFrom (b : Nat) (digit : Char → Option Nat) : Nat → List Char → Option Nat
  | acc, [] => some acc
  | acc, c :: rest => (digit c).bind fun d => numeralFrom b digit (acc * b + d) rest

/-- A colour: `0x` and six hexadecimal digits (R71). -/
def parseColor : List Char → Option Nat
  | '0' :: 'x' :: digits => if digits.length = 6 then numeralFrom 16 hexDigit? 0 digits else none
  | _ => none

/-- A weight, a shift or a mode: decimal digits (R71, R72). -/
def parseDecimal (t : List Char) : Option Nat := if t = [] then none else numeralFrom 10 decDigit? 0 t

/-- The five operands of a blend, in the order of R71. -/
def parseBlend (mk : Nat → Nat → Nat → Nat → Nat → SourceLine) (c1 c2 w1 w2 s : List Char) : Option SourceLine :=
  (parseColor c1).bind fun c1 => (parseColor c2).bind fun c2 => (parseDecimal w1).bind fun w1 =>
    (parseDecimal w2).bind fun w2 => (parseDecimal s).map fun s => mk c1 c2 w1 w2 s

/-- A program line from its text (R71, R72); none where the text spells no line. -/
def parseLine (text : List Char) : Option SourceLine :=
  match (tokens text).filter (fun t => !t.isEmpty) with
  | [m] =>
    if m = ['I', 'N', 'I', 'T'] then some .init
    else if m = ['R', 'S', 'V', 'D'] then some .rsvd
    else if m = ['R', 'E', 'S', 'E', 'T'] then some .reset
    else none
  | [m, c1, c2, g] =>
    if m = ['A', 'V', 'G'] then
      (parseColor c1).bind fun c1 => (parseColor c2).bind fun c2 => (parseDecimal g).map fun g => .avg c1 c2 g
    else none
  | [m, c1, c2, w1, w2, s] =>
    if m = ['M', 'I', 'X', 'R'] then parseBlend .mixr c1 c2 w1 w2 s
    else if m = ['M', 'I', 'X', 'G'] then parseBlend .mixg c1 c2 w1 w2 s
    else none
  | [m, c1, c2, w1, w2, s, g] =>
    if m = ['M', 'I', 'X'] then
      (parseDecimal g).bind fun g => parseBlend (fun c1 c2 w1 w2 s => .mix c1 c2 w1 w2 s g) c1 c2 w1 w2 s
    else none
  | _ => none

/-- A hexadecimal digit in the case that R71 writes. -/
def hexChar (n : Nat) : Char := if n < 10 then Char.ofNat (48 + n) else Char.ofNat (55 + n)

/-- A response as R71 writes it: `-> 0xRRGGBB` and the names of the flags that are 1. -/
def responseText (r : Response) : List Char :=
  ['-', '>', ' ', '0', 'x'] ++ [20, 16, 12, 8, 4, 0].map (fun at_ => hexChar (r.color.toNat / 2 ^ at_ % 16)) ++
    (if r.ill then [' ', 'i', 'l', 'l'] else []) ++ (if r.uninit then [' ', 'u', 'n', 'i', 'n', 'i', 't'] else []) ++
    (if r.ovf then [' ', 'o', 'v', 'f'] else [])

end Sys2Proof.Machine
end

