-- ==== Sys2Proof/Tests/Slice0.lean ====
section
/-! SUPPORT. Tests of the model against the spec's own words and vectors (each names its source), and for every statement with
hypotheses a witness that meets them. -/

namespace Sys2Proof.Tests

open Sys2Proof Sys2Proof.Machine

/-! ### Well-formedness: an ill-formed line for each check (93_implementation_defined.md U9) -/

theorem test_wide_color_refused : assemble (.mixr 0x1000000 0 1 0 0) = .error .colorTooWide := by decide
theorem test_wide_weight_refused : assemble (.mixg 0 0 131072 0 0) = .error .weightTooWide := by decide
theorem test_wide_shift_refused : assemble (.mixr 0 0 1 0 32) = .error .shiftTooWide := by decide
theorem test_bad_mode_refused : assemble (.avg 0 0 2) = .error .badMode := by decide
theorem test_largest_operands_accepted : (SourceLine.mixg 0xFFFFFF 0xFFFFFF 131071 131071 31).wellFormed = true := by decide

/-! ### Words written out from 30_encoding.md R61, R62 -/

/-- V16: `MIXR 0x102030, 0x405060, 3, 1, 2`. -/
theorem test_decode_mixr :
    decodeReq 0b00_00010_00000000000000011_00000000000000001_000100000010000000110000_010000000101000001100000#89 =
      .mixr 0x102030 0x405060 3 1 2 := by decide

/-- V39: `MIXG 0x102030, 0x405060, 3, 1, 2`. -/
theorem test_decode_mixg :
    decodeReq 0b01_00010_00000000000000011_00000000000000001_000100000010000000110000_010000000101000001100000#89 =
      .mixg 0x102030 0x405060 3 1 2 := by decide

/-- V1: `INIT`, the ignored fields zero. -/
theorem test_decode_init :
    decodeReq 0b10_00000_00000000000000000_00000000000000000_000000000000000000000000_000000000000000000000000#89 = .init 0 := by decide

/-- V64: the reserved code, every bit set. -/
theorem test_decode_rsvd :
    decodeReq 0b11_11111_11111111111111111_11111111111111111_111111111111111111111111_111111111111111111111111#89 =
      .rsvd (BitVec.allOnes 87) := by decide

/-- A number with a bit above bit 88 is no request word. -/
theorem test_decode_too_wide : decodeTableWord 96 (2 ^ 89) = none := by decide

/-- V25: the request word of `MIXR 0x123456, 0x123456, 65536, 65536, 17`. -/
theorem test_encode_mixr : encode (.mixr 0x123456 0x123456 65536 65536 17) = 0x04600010000123456123456#89 := by decide

/-! ### The spelling of lines and responses (30_encoding.md R71, R72) -/

theorem test_parse_mixr : parseLine "MIXR  0xFF0000, 0x0000FF, 128, 128, 8".toList = some (.mixr 0xFF0000 0x0000FF 128 128 8) := by decide
theorem test_parse_avg : (parseLine "AVG 0xFF0000, 0x0000ff, 1".toList).map assemble =
    some (.ok (.request (.mixg 0xFF0000 0x0000FF 128 128 8))) := by decide
/-- R71: `-> 0x000000 uninit`. -/
theorem test_response_text : responseText ⟨false, true, false, 0⟩ = "-> 0x000000 uninit".toList := by decide

/-! ### One operation on a small state -/

/-- The response word of an operation in a state (30_encoding.md R66). -/
def word (i : Instr) (s : State) : Option RspWord := (responseOf i s).map responseWord

/-- The loaded configuration, not busy. -/
def loaded : State := State.reset.loadTables

/-- `s` before the edges `p`. -/
def before (s : State) (p : List PortIn) : State := { s with script := p }

/-- The state an outcome gives. -/
def nextOf (o : Host.Outcome State Fault Refusal) : Option State :=
  match o with
  | .next t => some t
  | .fault _ => none
  | .refused _ => none

/-- The refusal of an outcome. -/
def refusalOf (o : Host.Outcome State Fault Refusal) : Option Refusal :=
  match o with
  | .next _ => none
  | .fault _ => none
  | .refused r => some r

/-- V20: floors of small products. -/
theorem test_mixr_floor : word (.mixr 0x010203 0x000000 255 0 8) State.reset = some 0x0000102#27 := by decide
/-- V31: exactly 256 in one lane. -/
theorem test_mixr_overflow : word (.mixr 0x800000 0x800000 1 1 0) loaded = some 0x1ff0000#27 := by decide
/-- V50: two lanes saturated, one in range. -/
theorem test_mixg_overflow : word (.mixg 0xFF8000 0x0080FF 2 2 0) loaded = some 0x1fff1ff#27 := by decide
/-- V52: a shifted accumulator of exactly 255 has no flag. -/
theorem test_mixg_at_255 : word (.mixg 0x101010 0x000000 255 0 0) loaded = some 0x0ffffff#27 := by decide
/-- V4: `INIT` with every ignored bit set. -/
theorem test_init_response : word (.init (BitVec.allOnes 87)) loaded = some 0x0000000#27 := by decide
/-- R83: `GT[255]` = 254 and `IGT[255]` = 256 after `INIT` from the cleared state. -/
theorem test_init_tables :
    (nextOf (exec (.init 0) State.reset)).map (fun t => (readEntry t.gt 255, readEntry t.igt 255, t.inited)) =
      some (254#9, 256#9, true) := by decide +kernel
/-- V62, V64: the reserved code in both configurations. -/
theorem test_rsvd_cleared : word (.rsvd 0) State.reset = some 0x4000000#27 := by decide
theorem test_rsvd_loaded : word (.rsvd (BitVec.allOnes 87)) loaded = some 0x4000000#27 := by decide

/-! ### Single edges -/

/-- V59 through the ports: the word of `MIXG 0xFF0000, 0x0000FF, 128, 128, 8` placed at reset is executed by the next step. -/
theorem test_placed_word_runs :
    (nextOf (step (State.reset.withFetchWord 96 0x0a001000080ff00000000ff))).map (fun t => t.iface) =
      some (.executing (.mixg 0xFF0000 0x0000FF 128 128 8) ⟨false, true, false, 0⟩ 0 0) := by decide

/-- V73: reset wins over a request presented on the same edge. -/
theorem test_reset_wins :
    (nextOf (step (before loaded [{ requestEdge (encode (.init 0)) with rst := true }]))).map (fun t => (t.iface, t.inited)) =
      some (.idle, false) := by decide

/-- V69: reset withdraws a response that was not taken. -/
theorem test_reset_withdraws :
    (nextOf (step (before { loaded with iface := .responding ⟨false, false, false, 0x1C2C3C⟩ } [resetPulse]))).map
      (fun t => (t.iface, t.taken)) = some (.idle, []) := by decide

/-- V70: the response is taken at the first edge with `rsp_ready` = 1. -/
theorem test_response_taken :
    (nextOf (step (before { loaded with iface := .responding ⟨false, false, false, 0x1C2C3C⟩ } [hostEdge none true]))).map
      (fun t => (t.iface, t.taken)) = some (.idle, [0x01c2c3c#27]) := by decide

/-- R68: a host that drops a request it raised has no move. -/
theorem test_withdrawn_request_refused :
    refusalOf (step { loaded with presented := some 5 }) = some .requestWithdrawn := by decide

/-! ### Witnesses: the hypotheses of each statement are met -/

theorem loaded_is_loaded : loaded.loaded = true := by decide +kernel
theorem loaded_configured : loaded.configured = true := by decide +kernel
theorem reset_cleared : State.reset.cleared = true := by decide +kernel
theorem reset_configured : State.reset.configured = true := by decide +kernel

theorem witness_AssemblerNeverReducesOperands :
    ((0xFFFFFF : Nat) < 2 ^ 24 ∧ (131071 : Nat) ≤ 131071 ∧ (31 : Nat) ≤ 31) ∧ ¬ ((0xFFFFFF : Nat) < 2 ^ 24 ∧ (131072 : Nat) ≤ 131071) := by
  decide
theorem witness_PseudoOperationsExpand : (1 : Nat) < 2 := by decide
theorem witness_ShiftIsFloorDivision : 27 ≤ (27#5).toNat ∧ 26 ≤ (26#5).toNat ∧ loaded.configured = true ∧ State.reset.configured = true :=
  ⟨by decide, by decide, loaded_configured, reset_configured⟩
theorem witness_BlendsWriteNoState :
    (∀ x, Instr.rsvd 0 ≠ .init x) ∧ (∀ x, Instr.mixg 1 2 3 4 5 ≠ .init x) ∧ loaded.configured = true ∧
      ({ loaded with edge := 7 } : State).configured = true ∧ loaded.inited = ({ loaded with edge := 7 } : State).inited :=
  ⟨by simp, by simp, loaded_configured, by decide +kernel, rfl⟩
theorem witness_OvfMarksSaturatedLanes :
    255 < rawQ 0x800000 0x800000 1 1 0 .R ∧ rawQ 0x7F0000 0x800000 1 1 0 .R = 255 ∧ loaded.configured = true ∧
      255 < gammaQ loaded.gt 0x101010 0 256 0 0 .R ∧ gammaQ loaded.gt 0x101010 0 255 0 0 .R = 255 ∧ State.reset.cleared = true :=
  ⟨by decide, by decide, loaded_configured, by decide, by decide, reset_cleared⟩
theorem witness_AtMostOneFlagInAResponse : loaded.configured = true ∧ State.reset.configured = true := ⟨loaded_configured, reset_configured⟩
theorem witness_MixgBeforeInitIsBlackAndFlagged : State.reset.cleared = true := reset_cleared
theorem witness_NormalisedRequestsStayInRange :
    normalised 128 128 8 = true ∧ (128 : Weight).toNat + (128 : Weight).toNat = 2 ^ (8 : Shift).toNat ∧ loaded.loaded = true ∧
      (3 : Nat) + 1 = 2 ^ 2 ∧ (2 : Nat) + 1 ≤ 2 ^ 2 := ⟨by decide, by decide, loaded_is_loaded, by decide, by decide⟩
theorem witness_EqualColorsBlendToRoundTrip :
    (65536 : Weight).toNat + (65536 : Weight).toNat = 2 ^ (17 : Shift).toNat ∧ loaded.loaded = true ∧
      1 ≤ (15 : Channel).toNat ∧ (15 : Channel).toNat ≤ 15 ∧ 1 ≤ (1 : Channel).toNat :=
  ⟨by decide, loaded_is_loaded, by decide, by decide, by decide⟩
theorem witness_EveryWordIsExactlyOneRequest : encode (.rsvd 0) = 0x18000000000000000000000#89 := by decide
theorem witness_LanesDoNotInteract : chan 0x12FFFF .R = chan 0x120000 .R ∧ chan 0x345678 .R = chan 0x34ABCD .R := by decide
theorem witness_ZeroAndExtremeOperands :
    loaded.configured = true ∧ (65536 : Weight).toNat = 2 ^ (16 : Shift).toNat ∧ loaded.loaded = true ∧ (17#5).toNat ≤ 17 ∧
      (18#5).toNat = 18 ∧ 26 ≤ (26#5).toNat ∧ chan 0x00FFFF .R = 0#8 :=
  ⟨loaded_configured, by decide, loaded_is_loaded, by decide, by decide, by decide, by decide⟩
theorem witness_BlackAndWhiteSurvive : loaded.loaded = true := loaded_is_loaded
/-- V29, V16, and, for `MIXG`, V39, V52 and V51. -/
theorem witness_UnflaggedColorIsTheUnclampedOne :
    (rawResponse 0xFF8000 0x0080FF 1 1 0).ovf = true ∧ (rawResponse 0x102030 0x405060 3 1 2).ovf = false ∧ loaded.loaded = true ∧
      (gammaResponse gammaRom igammaRom true 0x102030 0x405060 3 1 2).ovf = false ∧ gammaQ loaded.gt 0x102030 0x405060 3 1 2 .R ≠ 255 ∧
      gammaQ loaded.gt 0x101010 0 255 0 0 .R = 255 ∧ (gammaResponse gammaRom igammaRom true 0xFFFFFF 0xFFFFFF 1 1 0).ovf = true :=
  ⟨by decide, by decide, loaded_is_loaded, by decide, by decide, by decide, by decide⟩
theorem witness_NormalisedColorsAreMeaningful :
    normalised 3 1 2 = true ∧ loaded.loaded = true ∧ responseOf (.rsvd 0) State.reset = some reservedResponse ∧ reservedResponse.ill = true :=
  ⟨by decide, loaded_is_loaded, rfl, rfl⟩
theorem witness_TableFacts : (254#8 : Index) ≠ 255#8 := by decide
theorem witness_RoundTripFacts : 120 ≤ (120#8).toNat := by decide

/-- Reset in the middle of an `INIT`, then a request at the first edge with `rst` = 0 (V68). -/
def resetThenRequest : State :=
  before { loaded with iface := .executing (.init 0) initResponse 0 0 } [resetPulse, requestEdge (encode (.rsvd 0))]
theorem witness_ResetEdgeClearsTheBlock :
    resetThenRequest.ports.rst = true ∧ resetThenRequest.resetEdge.ports.rst = false ∧ resetThenRequest.resetEdge.ports.reqValid = true := by
  decide
theorem witness_ResetAbandonsTheOperation : resetThenRequest.iface.busy = true ∧ resetThenRequest.ports.rst = true := by decide

/-- A block that is not busy, before an edge that presents `RSVD`. -/
def idleWithRequest : State := before loaded [requestEdge (encode (.rsvd 0))]
theorem witness_StepRunsTheDecodedRequest :
    idleWithRequest.iface = .idle ∧ idleWithRequest.ports.rst = false ∧ idleWithRequest.ports.reqValid = true ∧
      idleWithRequest.presented = none ∧
      ({ idleWithRequest with presented := some (encode (.rsvd 0)) } : State).presented = some (requestWord idleWithRequest.ports) := by decide
theorem witness_HandshakeTransfers :
    idleWithRequest.breach? = none ∧ quietEdge.reqValid = false ∧ ({ quietEdge with reqShift := 31 } : PortIn).reqValid = false ∧
      quietEdge.rst = ({ quietEdge with reqShift := 31 } : PortIn).rst ∧
      quietEdge.rspReady = ({ quietEdge with reqShift := 31 } : PortIn).rspReady := by decide

/-- A busy block before an edge at which the host raises its next request. -/
def busyWithRequest : State := before { loaded with iface := .responding initResponse } [requestEdge (encode (.rsvd 0))]
theorem witness_HostMustHoldItsRequest :
    (nextOf (step busyWithRequest)).map (fun t => t.presented) = some (some (encode (.rsvd 0))) ∧ quietEdge.rst = (hostEdge none true).rst ∧
      refusalOf (step { busyWithRequest with presented := some (encode (.rsvd 1)) }) = some .requestAltered ∧
      refusalOf (step { (before busyWithRequest [quietEdge]) with presented := some (encode (.rsvd 0)) }) = some .requestWithdrawn := by
  decide
theorem witness_BusyBlockAcceptsNothing :
    busyWithRequest.ports.rst = false ∧ busyWithRequest.iface.busy = true ∧ (nextOf (step busyWithRequest)).isSome = true ∧
      idleWithRequest.edgeKind = .accept (.rsvd 0) := by decide
theorem witness_ResponseIsHeldUntilTaken :
    busyWithRequest.iface = .responding initResponse ∧ busyWithRequest.ports.rst = false ∧ busyWithRequest.breach? = none ∧
      busyWithRequest.ports.rspReady = false ∧ (before busyWithRequest [hostEdge none true]).ports.rspReady = true ∧
      (before busyWithRequest [hostEdge none true]).ports.rst = false ∧ (before busyWithRequest [hostEdge none true]).breach? = none := by decide
theorem witness_EveryRequestIsAnswered : resetThenRequest.ports.rst = true ∧ idleWithRequest.breach? = none := by decide
theorem witness_QuietEdgeChangesNothing :
    loaded.iface = .idle ∧ loaded.presented = none ∧ loaded.ports.rst = false ∧ loaded.ports.reqValid = false := by decide

/-- Before an edge that presents `INIT` to the cleared block. -/
def clearedWithInit : State := before State.reset [requestEdge (encode (.init 0))]
theorem witness_OnlyInitAndResetWriteTheTables :
    clearedWithInit.edgeKind = .accept (.init 0) ∧ (nextOf (step clearedWithInit)).map (fun t => t.inited) = some true ∧
      clearedWithInit.inited = false ∧ resetThenRequest.inited = true ∧
      (nextOf (step resetThenRequest)).map (fun t => t.inited) = some false := by decide +kernel
theorem witness_EveryEdgeKeepsTheConfiguration :
    clearedWithInit.inv = true ∧ step clearedWithInit = .next (clearedWithInit.loadTables.respond (.init 0) initResponse).acceptEdge :=
  ⟨by decide +kernel, by rfl⟩
theorem witness_EveryEdgeIsOneTransactionMove : (nextOf (step clearedWithInit)).isSome = true := by decide
theorem witness_ResultsDoNotDependOnTiming : loaded.arch = ({ busyWithRequest with edge := 9 } : State).arch := by decide +kernel
theorem witness_ResponseBecomesValidAfterItsLatency :
    ∃ s : State, s.iface = .executing (.init 0) initResponse 0 0 ∧ s.presented = none ∧
      ∀ k, k < latency (.init 0) 0 → (s.script.getD k quietEdge).rst = false ∧ shownRequest (s.script.getD k quietEdge) = none :=
  ⟨{ loaded with iface := .executing (.init 0) initResponse 0 0 }, rfl, rfl, fun _ _ => ⟨rfl, rfl⟩⟩
/-- Two turns: the second request is raised while the block is busy with the first, whose response waits three edges. -/
def twoTurns : List Turn := [⟨.init 0, 2, 3⟩, ⟨.mixg 0xFF0000 0x0000FF 128 128 8, 1, 0⟩]
theorem witness_RequestsAreAnsweredInOrder :
    ∃ s : State, s.iface = .idle ∧ s.presented = none ∧ s.script = hostScript (fun _ => true) 0 twoTurns s.edge :=
  ⟨before State.reset (hostScript (fun _ => true) 0 twoTurns 0), rfl, rfl, rfl⟩
theorem witness_AcceptedRequestsAreAnsweredInOrder :
    (∀ j, j < 1 → (idleWithRequest.script.getD j quietEdge).rst = false) ∧ (nextOf (run 1 idleWithRequest)).isSome = true ∧
      accepted 1 idleWithRequest = [.rsvd 0] := by decide

end Sys2Proof.Tests
end

section
/-! The statements about the state (10_state.md): the packed colour (R20), what an edge may do to the architectural state (R21 to
R24), the configurations (R32), reset (R33) and the lawful responses (60_exceptions.md R114). -/

namespace Sys2Proof.Machine

/-! ### The packed colour -/

/-- The position of each lane in a packed colour (R20). -/
theorem pack_toNat (r g b : Channel) : (pack r g b).toNat = r.toNat * 2 ^ 16 + g.toNat * 2 ^ 8 + b.toNat := by
  unfold pack
  rw [BitVec.toNat_append, BitVec.toNat_append, ← Nat.shiftLeft_add_eq_or_of_lt g.isLt, ← Nat.shiftLeft_add_eq_or_of_lt b.isLt]
  simp only [Nat.shiftLeft_eq]
  omega

theorem chan_R_toNat (c : Color) : (chan c .R).toNat = c.toNat / 2 ^ 16 := by
  rw [chan, BitVec.extractLsb'_toNat, Nat.shiftRight_eq_div_pow]
  omega

theorem chan_G_toNat (c : Color) : (chan c .G).toNat = c.toNat / 2 ^ 8 % 2 ^ 8 := by
  rw [chan, BitVec.extractLsb'_toNat, Nat.shiftRight_eq_div_pow]

theorem chan_B_toNat (c : Color) : (chan c .B).toNat = c.toNat % 2 ^ 8 := by
  rw [chan, BitVec.extractLsb'_toNat, Nat.shiftRight_zero]

@[simp] theorem chan_pack_R (r g b : Channel) : chan (pack r g b) .R = r := by
  apply BitVec.eq_of_toNat_eq
  rw [chan_R_toNat, pack_toNat]
  omega

@[simp] theorem chan_pack_G (r g b : Channel) : chan (pack r g b) .G = g := by
  apply BitVec.eq_of_toNat_eq
  rw [chan_G_toNat, pack_toNat]
  omega

@[simp] theorem chan_pack_B (r g b : Channel) : chan (pack r g b) .B = b := by
  apply BitVec.eq_of_toNat_eq
  rw [chan_B_toNat, pack_toNat]
  omega

@[simp] theorem pack_chan (c : Color) : pack (chan c .R) (chan c .G) (chan c .B) = c := by
  apply BitVec.eq_of_toNat_eq
  rw [pack_toNat, chan_R_toNat, chan_G_toNat, chan_B_toNat]
  omega

/-- Settles O7, by reading every field as a natural number. -/
theorem packedColorIsItsChannels : Obligations.PackedColorIsItsChannels :=
  ⟨fun r g b => ⟨pack_toNat r g b, chan_pack_R r g b, chan_pack_G r g b, chan_pack_B r g b⟩,
    fun c => ⟨pack_chan c, chan_R_toNat c, chan_G_toNat c, chan_B_toNat c⟩⟩

/-! ### What an edge does to the architectural state -/

/-- Only `INIT` changes the architectural state (41_blend.md R92, R98). -/
theorem Arch.after_of_ne_init (a : Arch) {i : Instr} (h : ∀ x, i ≠ .init x) : a.after i = a := by
  cases i with
  | init x => exact absurd rfl (h x)
  | _ => rfl

/-- An accepting edge answers, and has the operation's whole effect and response (20_memory.md R46; log entry 2). -/
theorem step_accept {s : State} {i : Instr} (h : s.edgeKind = .accept i) :
    ∃ t, step s = .next t ∧ t.arch = s.arch.after i ∧ t.iface = .executing i (s.arch.answer i) s.edge 0 ∧ t.taken = s.taken := by
  have hstep : step s = onNext State.acceptEdge (exec i s) := by rw [step, h]
  exact ⟨_, hstep.trans (congrArg _ (exec_eq i s)), rfl, rfl, rfl⟩

/-- Every edge but a reset and the acceptance of an `INIT` leaves the architectural state as it was. -/
theorem step_arch {s t : State} (h : step s = .next t) :
    s.ports.rst = true ∨ (∃ x, s.edgeKind = .accept (.init x)) ∨ t.arch = s.arch := by
  obtain ⟨hk, -⟩ | ⟨i, u, hk, hu, rfl⟩ | ⟨-, rfl⟩ | ⟨_, _, _, _, -, rfl⟩ | ⟨_, -, rfl⟩ | ⟨_, -, rfl⟩ | ⟨-, rfl⟩ := step_cases h
  case inl => exact .inl (edgeKind_reset.mp hk)
  case inr.inl =>
    by_cases hi : ∃ x, i = .init x
    · obtain ⟨x, rfl⟩ := hi
      exact .inr (.inl ⟨x, hk⟩)
    · rw [exec_eq] at hu
      cases hu
      exact .inr (.inr (s.arch.after_of_ne_init (not_exists.mp hi)))
  all_goals exact .inr (.inr rfl)

/-- An edge that accepts `INIT` loads both tables and sets `inited` (40_init.md R83). -/
theorem step_accept_init {s : State} {x : BitVec 87} (h : s.edgeKind = .accept (.init x)) :
    ∃ t, step s = .next t ∧ t.gt = gammaRom ∧ t.igt = igammaRom ∧ t.inited = true := by
  obtain ⟨t, ht, ha, -⟩ := step_accept h
  exact ⟨t, ht, congrArg Arch.gt ha, congrArg Arch.igt ha, congrArg Arch.inited ha⟩

/-- Settles O46: the edges that can change the architectural state are those of `step_arch`, and an accepted `INIT` sets `inited`. -/
theorem onlyInitAndResetWriteTheTables : Obligations.OnlyInitAndResetWriteTheTables := by
  refine ⟨fun s t h hd => ?_, fun s t h hs ht => ?_, fun x s h => ?_⟩
  · obtain hr | hx | ha := step_arch h
    · exact .inl hr
    · exact .inr hx
    · obtain ⟨hgt, higt, hin⟩ := Arch.mk.inj ha
      simp [hgt, higt, hin] at hd
  · obtain hr | ⟨x, hx⟩ | ha := step_arch h
    · exact hr
    · obtain ⟨u, hu, -, -, hin⟩ := step_accept_init hx
      cases hu.symm.trans h
      simp [hin] at ht
    · simp [(Arch.mk.inj ha).2.2, hs] at ht
  · obtain ⟨t, ht, hgt, higt, hin⟩ := step_accept_init h
    exact ⟨t, ht, hin, fun a => ⟨by rw [hgt], by rw [higt]⟩⟩

/-- Settles O18: an operation writes the tables, `inited` and the interface state only. -/
theorem operationsLeaveTheHostSide : Obligations.OperationsLeaveTheHostSide :=
  fun i s => ⟨_, exec_eq i s, rfl, rfl, rfl, rfl⟩

/-- Settles O35: `State.reset` is written with the values of R33. -/
theorem resetStateIsCleared : Obligations.ResetStateIsCleared :=
  ⟨fun i => ⟨readEntry_zeroTable i, readEntry_zeroTable i⟩, rfl, rfl, rfl, rfl⟩

/-! ### The two configurations -/

/-- The architectural state of the loaded configuration (R32). -/
def Arch.loaded : Arch := { gt := gammaRom, igt := igammaRom, inited := true }

theorem cleared_iff {s : State} : s.cleared = true ↔ s.arch = Arch.clear := by
  simp only [State.cleared, State.arch, Arch.clear, Arch.mk.injEq, Bool.and_eq_true, beq_iff_eq]
  tauto

theorem loaded_iff {s : State} : s.loaded = true ↔ s.arch = Arch.loaded := by
  simp only [State.loaded, State.arch, Arch.loaded, Arch.mk.injEq, Bool.and_eq_true, beq_iff_eq]
  tauto

theorem configured_iff {s : State} : s.configured = true ↔ s.arch = Arch.clear ∨ s.arch = Arch.loaded := by
  rw [State.configured, Bool.or_eq_true, cleared_iff, loaded_iff]

/-- Every operation leads from a configuration to a configuration (R32). -/
theorem Arch.after_configured {a : Arch} (h : a = Arch.clear ∨ a = Arch.loaded) (i : Instr) :
    a.after i = Arch.clear ∨ a.after i = Arch.loaded := by
  cases i with
  | init x => exact .inr rfl
  | _ => exact h

/-! ### Lawful responses -/

/-- Zero multiplicands give a zero accumulator, whatever the weights and the shift (41_blend.md R108). -/
theorem gammaQuotient_zeroTable (c1 c2 : Color) (w1 w2 : Weight) (sh : Shift) (k : Lane) :
    gammaQuotient zeroTable c1 c2 w1 w2 sh k = 0#27 := by
  simp [gammaQuotient, readEntry_zeroTable, accumulate, normalise]

theorem gammaChannel_zeroTable (q : Acc) : gammaChannel zeroTable q = 0#8 := by
  rw [gammaChannel, readEntry_zeroTable]
  rfl

/-- `MIXG` before `INIT` answers black with `uninit` alone (41_blend.md R108). -/
theorem gammaResponse_cleared (c1 c2 : Color) (w1 w2 : Weight) (sh : Shift) :
    gammaResponse zeroTable zeroTable false c1 c2 w1 w2 sh = ⟨false, true, false, 0#24⟩ := by
  simp only [gammaResponse, blendResponse, gammaQuotient_zeroTable, gammaChannel_zeroTable]
  rfl

/-- A blend whose `uninit` is 0 can set no flag but `ovf`. -/
theorem blendResponse_lawful (out : Acc → Channel) (q : Lane → Acc) : (blendResponse out false q).lawful = true := by
  simp [Response.lawful, blendResponse]

/-- Every response of a configuration is lawful (60_exceptions.md R111, R114): the one blend that sets `uninit` is `MIXG` on zero
tables. -/
theorem Arch.answer_lawful {a : Arch} (h : a = Arch.clear ∨ a = Arch.loaded) (i : Instr) : (a.answer i).lawful = true := by
  cases i with
  | mixr c1 c2 w1 w2 sh => exact blendResponse_lawful _ _
  | mixg c1 c2 w1 w2 sh =>
    rcases h with rfl | rfl
    · exact congrArg Response.lawful (gammaResponse_cleared c1 c2 w1 w2 sh)
    · exact blendResponse_lawful _ _
  | init x => rfl
  | rsvd x => rfl

/-- The top three bits of a response word are the flags (30_encoding.md R66). -/
theorem responseWord_flags (r : Response) :
    (responseWord r).extractLsb' 24 3 = BitVec.ofBool r.ill ++ BitVec.ofBool r.uninit ++ BitVec.ofBool r.ovf :=
  BitVec.extractLsb'_append_eq_left

/-- Three flags of which at most one is 1, as bits (60_exceptions.md R114). -/
theorem flagBits_mem : ∀ ill uninit ovf : Bool, (!(ill && uninit) && !(ill && ovf) && !(uninit && ovf)) = true →
    BitVec.ofBool ill ++ BitVec.ofBool uninit ++ BitVec.ofBool ovf ∈ [0#3, 1#3, 2#3, 4#3] := by
  decide

theorem lawfulWord_responseWord {r : Response} (h : r.lawful = true) : lawfulWord (responseWord r) = true := by
  obtain ⟨hflags, -⟩ := Bool.and_eq_true_iff.mp h
  have hbits := flagBits_mem _ _ _ hflags
  rw [← responseWord_flags] at hbits
  simpa [lawfulWord, or_assoc] using hbits

/-! ### The invariant -/

/-- The invariant in its three parts: a configuration, a lawful held response, lawful taken words. -/
theorem inv_iff {s : State} :
    s.inv = true ↔ (s.arch = Arch.clear ∨ s.arch = Arch.loaded) ∧ (∀ r, s.iface.response? = some r → r.lawful = true) ∧
      ∀ w ∈ s.taken, lawfulWord w = true := by
  rw [State.inv, Bool.and_eq_true, Bool.and_eq_true, configured_iff, List.all_eq_true, and_assoc]
  cases s.iface.response? <;> simp

/-- The invariant reads the architectural state, the held response and the taken words only. -/
theorem inv_of_eq {s t : State} (hs : s.inv = true) (ha : t.arch = s.arch) (hr : t.iface.response? = s.iface.response?)
    (hw : t.taken = s.taken) : t.inv = true := by
  rw [inv_iff] at hs ⊢
  rwa [ha, hr, hw]

theorem inv_resetEdge {s : State} (hs : s.inv = true) : s.resetEdge.inv = true := by
  obtain ⟨-, -, hw⟩ := inv_iff.mp hs
  exact inv_iff.mpr ⟨.inl rfl, by simp [Interface.response?], hw⟩

/-- An accepted operation keeps the invariant: its configuration and its response are those of a configuration. -/
theorem inv_of_accept {s t : State} {i : Instr} (hs : s.inv = true) (hk : s.edgeKind = .accept i) (h : step s = .next t) :
    t.inv = true := by
  obtain ⟨hc, -, hw⟩ := inv_iff.mp hs
  obtain ⟨u, hu, ha, hi, ht⟩ := step_accept hk
  cases hu.symm.trans h
  rw [inv_iff, ha, hi, ht]
  exact ⟨Arch.after_configured hc i, fun r hr => Option.some.inj hr ▸ Arch.answer_lawful hc i, hw⟩

/-- A delivered response was held, so its word is lawful. -/
theorem inv_deliverEdge {s : State} {r : Response} (hs : s.inv = true) (hi : s.iface = .responding r) :
    (s.deliverEdge r).inv = true := by
  obtain ⟨hc, hr, hw⟩ := inv_iff.mp hs
  have hword : lawfulWord (responseWord r) = true := lawfulWord_responseWord (hr r (by rw [hi]; rfl))
  refine inv_iff.mpr ⟨hc, by simp [Interface.response?], ?_⟩
  simpa [or_imp, forall_and, hword] using hw

/-- Settles O47, by the kinds of edge: a reset clears, an acceptance is an operation of a configuration, a delivery moves the held
response to the taken words, and the other edges change none of the three parts of the invariant. -/
theorem everyEdgeKeepsTheConfiguration : Obligations.EveryEdgeKeepsTheConfiguration := by
  intro s t hs h
  obtain ⟨-, rfl⟩ | ⟨i, u, hk, -, -⟩ | ⟨-, rfl⟩ | ⟨req, rsp, draw, age, hk, rfl⟩ | ⟨rsp, hk, rfl⟩ | ⟨rsp, hk, rfl⟩ | ⟨-, rfl⟩ :=
    step_cases h
  · exact inv_resetEdge hs
  · exact inv_of_accept hs hk h
  · exact inv_of_eq hs rfl rfl rfl
  · obtain ⟨-, -, hi, -⟩ := edgeKind_work.mp hk
    exact inv_of_eq hs rfl (by rw [hi]; rfl) rfl
  · obtain ⟨-, -, i, d, a, hi, -⟩ := edgeKind_complete.mp hk
    exact inv_of_eq hs rfl (by rw [hi]; rfl) rfl
  · obtain ⟨-, -, hi, -⟩ := edgeKind_deliver.mp hk
    exact inv_deliverEdge hs hi
  · exact inv_of_eq hs rfl rfl rfl

/-- Settles O48: reset is the cleared configuration, with no response held or taken. -/
theorem resetMeetsTheConfiguration : Obligations.ResetMeetsTheConfiguration :=
  ⟨inv_iff.mpr ⟨.inl rfl, nofun, nofun⟩, cleared_iff.mpr rfl⟩

end Sys2Proof.Machine
end

section
/-! The statements about the transactions (20_memory.md R46): each edge is one move of the transaction machine, the accepted requests are
executed one at a time in order, and a host that does its duties has each of its requests answered. -/

namespace Sys2Proof.Machine

/-! ### One edge -/

/-- The moves of the transaction machine, each with the edges that make it: only the second accepts a request. -/
theorem step_move {s t : State} (h : step s = .next t) :
    (s.edgeKind = .reset ∧ t.arch = Arch.clear ∧ t.iface = .idle ∧ t.taken = s.taken) ∨
    (∃ i, s.edgeKind = .accept i ∧ t.arch = s.arch.after i ∧ t.iface = .executing i (s.arch.answer i) s.edge 0 ∧ t.taken = s.taken) ∨
    (∃ r, s.edgeKind = .deliver r ∧ t.arch = s.arch ∧ t.iface = .idle ∧ t.taken = s.taken ++ [responseWord r]) ∨
    (s.edgeKind.accepted? = none ∧ t.arch = s.arch ∧ t.iface.response? = s.iface.response? ∧ t.taken = s.taken) := by
  obtain ⟨hk, rfl⟩ | ⟨i, u, hk, -, -⟩ | ⟨hk, rfl⟩ | ⟨req, rsp, draw, age, hk, rfl⟩ | ⟨rsp, hk, rfl⟩ | ⟨rsp, hk, rfl⟩ | ⟨hk, rfl⟩ :=
    step_cases h
  · exact .inl ⟨hk, rfl, rfl, rfl⟩
  · obtain ⟨v, hv, hmove⟩ := step_accept hk
    cases hv.symm.trans h
    exact .inr (.inl ⟨i, hk, hmove⟩)
  · exact .inr (.inr (.inr ⟨by rw [hk]; rfl, rfl, rfl, rfl⟩))
  · obtain ⟨-, -, hi, -⟩ := edgeKind_work.mp hk
    exact .inr (.inr (.inr ⟨by rw [hk]; rfl, rfl, by rw [hi]; rfl, rfl⟩))
  · obtain ⟨-, -, i, d, a, hi, -⟩ := edgeKind_complete.mp hk
    exact .inr (.inr (.inr ⟨by rw [hk]; rfl, rfl, by rw [hi]; rfl, rfl⟩))
  · exact .inr (.inr (.inl ⟨rsp, hk, rfl, rfl, rfl⟩))
  · exact .inr (.inr (.inr ⟨by rw [hk]; rfl, rfl, rfl, rfl⟩))

/-- Settles O49: the moves of `step_move`; a delivered response was held. -/
theorem everyEdgeIsOneTransactionMove : Obligations.EveryEdgeIsOneTransactionMove := by
  intro s t h
  obtain ⟨hk, ha, hi, ht⟩ | hmove | ⟨r, hk, ha, hi, ht⟩ | ⟨-, hmove⟩ := step_move h
  · exact .inl ⟨edgeKind_reset.mp hk, ha, by rw [hi]; rfl, ht⟩
  · exact .inr (.inl hmove)
  · obtain ⟨-, -, hs, -⟩ := edgeKind_deliver.mp hk
    exact .inr (.inr (.inl ⟨r, hk, by rw [hs]; rfl, ha, by rw [hi]; rfl, ht⟩))
  · exact .inr (.inr (.inr hmove))

/-! ### The accepted requests of a run -/

/-- Every edge that answers takes its inputs off the script. -/
theorem step_script {s t : State} (h : step s = .next t) : t.script = s.script.tail := by
  obtain ⟨-, rfl⟩ | ⟨i, u, -, hu, rfl⟩ | ⟨-, rfl⟩ | ⟨_, _, _, _, -, rfl⟩ | ⟨_, -, rfl⟩ | ⟨_, -, rfl⟩ | ⟨-, rfl⟩ := step_cases h
  case inr.inl =>
    cases (exec_eq i s).symm.trans hu
    rfl
  all_goals rfl

/-- Executing two lists of requests in turn is executing the one and then the other (20_memory.md R46). -/
theorem Arch.afterAll_append (a : Arch) (l m : List Instr) : a.afterAll (l ++ m) = (a.afterAll l).afterAll m := by
  induction l generalizing a with
  | nil => rfl
  | cons i l ih => exact ih (a.after i)

/-- The responses of two lists of requests in turn. -/
theorem Arch.answers_append (a : Arch) (l m : List Instr) : a.answers (l ++ m) = a.answers l ++ (a.afterAll l).answers m := by
  induction l generalizing a with
  | nil => rfl
  | cons i l ih => exact congrArg (a.answer i :: ·) (ih (a.after i))

/-- At an edge without reset the request accepted, if any, is executed, and its response joins those taken and held. -/
theorem step_executes {s t : State} (hr : s.ports.rst = false) (h : step s = .next t) :
    t.arch = s.arch.afterAll s.edgeKind.accepted?.toList ∧
    t.taken ++ t.held = s.taken ++ s.held ++ (s.arch.answers s.edgeKind.accepted?.toList).map responseWord := by
  obtain ⟨hk, -⟩ | ⟨i, hk, ha, hi, ht⟩ | ⟨r, hk, ha, hi, ht⟩ | ⟨hk, ha, hi, ht⟩ := step_move h
  · simp [edgeKind_reset.mp hk] at hr
  · obtain ⟨-, -, hs, -⟩ := edgeKind_accept.mp hk
    rw [hk]
    exact ⟨ha, by simp [State.held, hs, hi, ht, Interface.response?, EdgeKind.accepted?, Arch.answers]⟩
  · obtain ⟨-, -, hs, -⟩ := edgeKind_deliver.mp hk
    rw [hk]
    exact ⟨ha, by simp [State.held, hs, hi, ht, Interface.response?, EdgeKind.accepted?, Arch.answers]⟩
  · rw [hk]
    exact ⟨ha, by simp [State.held, hi, ht, Arch.answers]⟩

/-- Settles O53, by induction on the number of edges: `step_executes` for the first, and the rest of the run begins where it ends. -/
theorem acceptedRequestsAreAnsweredInOrder : Obligations.AcceptedRequestsAreAnsweredInOrder := by
  intro k
  induction k with
  | zero =>
    intro s t _ h
    cases h
    exact ⟨rfl, by simp [accepted, Arch.answers]⟩
  | succ k ih =>
    intro s t hr h
    rw [run] at h
    cases hs : step s with
    | next u =>
      rw [hs] at h
      have hfirst : s.ports.rst = false := by simpa [State.ports, List.head?_eq_getElem?] using hr 0 (by omega)
      have hrest : ∀ j, j < k → (u.script.getD j quietEdge).rst = false := fun j hj => by
        simpa [step_script hs] using hr (j + 1) (by omega)
      obtain ⟨ha, ht⟩ := step_executes hfirst hs
      obtain ⟨ha', ht'⟩ := ih u t hrest h
      simp only [accepted, hs, Arch.afterAll_append, Arch.answers_append, List.map_append]
      rw [ha', ht', ht, ha, List.append_assoc _ (List.map _ _)]
      exact ⟨rfl, rfl⟩
    | fault r => cases r
    | refused r => rw [hs] at h; cases h

/-! ### The request word of an operation -/

/-- A packed request's fields are read back (30_encoding.md R61). -/
theorem packRequest_fields (op : BitVec 2) (s : Shift) (w1 w2 : Weight) (c1 c2 : Color) :
    reqColor1 (packRequest op s w1 w2 c1 c2) = c1 ∧ reqColor2 (packRequest op s w1 w2 c1 c2) = c2 ∧
    reqWeight1 (packRequest op s w1 w2 c1 c2) = w1 ∧ reqWeight2 (packRequest op s w1 w2 c1 c2) = w2 ∧
    reqShift (packRequest op s w1 w2 c1 c2) = s := by
  simp only [packRequest, reqColor1, reqColor2, reqWeight1, reqWeight2, reqShift]
  refine ⟨?_, ?_, ?_, ?_, ?_⟩
  all_goals ext j hj; simp; grind

/-- The two bits that select the row are those of the `op` field (30_encoding.md R62). -/
theorem getLsbD_op (w : ReqWord) : w.getLsbD 88 = (reqOp w).getLsbD 1 ∧ w.getLsbD 87 = (reqOp w).getLsbD 0 := by
  simp [reqOp]

/-- An operation is what its request word decodes to (30_encoding.md R61, R62, R64). -/
theorem decodeReq_encode (i : Instr) : decodeReq (encode i) = i := by
  obtain ⟨h1, h0⟩ := getLsbD_op (encode i)
  unfold decodeReq
  rw [h1, h0]
  cases i with
  | mixr c1 c2 w1 w2 s =>
    obtain ⟨hc1, hc2, hw1, hw2, hs⟩ := packRequest_fields 0#2 s w1 w2 c1 c2
    rw [Laws.OpcodeBits.mixr c1 c2 w1 w2 s]
    simp [opcodeOf, encode, hc1, hc2, hw1, hw2, hs]
  | mixg c1 c2 w1 w2 s =>
    obtain ⟨hc1, hc2, hw1, hw2, hs⟩ := packRequest_fields 1#2 s w1 w2 c1 c2
    rw [Laws.OpcodeBits.mixg c1 c2 w1 w2 s]
    simp [opcodeOf, encode, hc1, hc2, hw1, hw2, hs]
  | init ignored =>
    rw [Laws.OpcodeBits.init ignored]
    have hi : reqIgnored (2#2 ++ ignored) = ignored := BitVec.extractLsb'_append_eq_right
    simp [opcodeOf, encode, hi]
  | rsvd ignored =>
    rw [Laws.OpcodeBits.rsvd ignored]
    have hi : reqIgnored (3#2 ++ ignored) = ignored := BitVec.extractLsb'_append_eq_right
    simp [opcodeOf, encode, hi]

/-! ### A host that does its duties -/

/-- `s` with another interface state, request outstanding, edge number and script: the same tables, the same words taken. -/
def State.onPorts (s : State) (x : Interface) (p : Option ReqWord) (n : Nat) (l : List PortIn) : State :=
  { s with iface := x, presented := p, edge := n, script := l }

/-- The tables and `inited` after `i` (40_init.md R83, 41_blend.md R92). -/
def State.executed (s : State) (i : Instr) : State :=
  s.withTables (s.arch.after i).gt (s.arch.after i).igt (s.arch.after i).inited

/-- The request the host has outstanding `k` edges after the last acceptance, when `next` is its next turn (30_encoding.md R68). -/
def outstanding (next : Option Turn) (k : Nat) : Option ReqWord := (next.filter fun v => v.raised < k).map fun v => encode v.request

/-- The interface state `j` edges after the acceptance of `i`, if its response `r` has not been taken: executing for the latency drawn at
the edge `d`, then responding (30_encoding.md R70). -/
def busyInterface (i : Instr) (r : Response) (d j : Nat) : Interface :=
  if j < latency i d then .executing i r d j else .responding r

/-- From the acceptance of a turn's request to the edge that takes its response: how many edges. -/
def Turn.busyEdges (u : Turn) (past n : Nat) : Nat := latency u.request (n + (u.raised - past)) + u.delay + 1

/-- The part of `hostScript` that belongs to one turn. -/
def turnScript (ready : Nat → Bool) (past : Nat) (u : Turn) (next : Option Turn) (n : Nat) : List PortIn :=
  (List.range (u.raised - past)).map (fun j => hostEdge none (ready (n + j))) ++
    hostEdge (some (encode u.request)) (ready (n + (u.raised - past))) ::
      busyScript ready (latency u.request (n + (u.raised - past))) u.delay next (n + (u.raised - past) + 1)

/-- The host's edge `j` edges after an acceptance (the edges that `busyScript` lists). -/
def busyEdge (ready : Nat → Bool) (wait delay : Nat) (next : Option Turn) (n j : Nat) : PortIn :=
  hostEdge (outstanding next (j + 1)) (if j < wait then ready (n + j) else j == wait + delay)

/-- A request is not outstanding before the host raises it. -/
theorem outstanding_eq_none {v : Turn} {k : Nat} (h : k ≤ v.raised) : outstanding (some v) k = none := by
  simp [outstanding, h]

/-- From then on it is. -/
theorem outstanding_eq_some {v : Turn} {k : Nat} (h : v.raised < k) : outstanding (some v) k = some (encode v.request) := by
  simp [outstanding, Option.filter_some, h]

/-- At an acceptance nothing stays outstanding. -/
theorem outstanding_zero (next : Option Turn) : outstanding next 0 = none := by
  cases next with
  | none => rfl
  | some v => exact outstanding_eq_none (Nat.zero_le _)

/-- A host that holds what it has raised breaks no duty: what is outstanding at an edge is shown there (30_encoding.md R68). -/
theorem outstanding_held (next : Option Turn) (k : Nat) : outstanding next k = none ∨ outstanding next k = outstanding next (k + 1) := by
  cases next with
  | none => exact .inl rfl
  | some v =>
    rcases Nat.lt_or_ge v.raised k with h | h
    · exact .inr ((outstanding_eq_some h).trans (outstanding_eq_some (Nat.lt_succ_of_lt h)).symm)
    · exact .inl (outstanding_eq_none h)

/-- A host edge that still shows what is outstanding breaks no duty (30_encoding.md R68). -/
theorem onPorts_breach_none (s : State) (x : Interface) {p q : Option ReqWord} (n : Nat) (b : Bool) (l : List PortIn) (h : p = none ∨ p = q) :
    (s.onPorts x p n (hostEdge q b :: l)).breach? = none :=
  breach_none (h.imp_right fun h => h.trans (shownRequest_hostEdge q b).symm)

/-! ### The edges of such a host -/

/-- What the host shows stays outstanding after an edge that accepts no request (30_encoding.md R68). -/
theorem onPorts_otherEdge (s : State) (x : Interface) (p q : Option ReqWord) (n : Nat) (b : Bool) (l : List PortIn) :
    (s.onPorts x p n (hostEdge q b :: l)).otherEdge = s.onPorts x q (n + 1) l :=
  congrArg (s.onPorts x · (n + 1) l) (shownRequest_hostEdge q b)

/-- Nothing shown to an idle block changes nothing (95_test_vectors.md V72). -/
theorem step_onPorts_idle (s : State) (n : Nat) (b : Bool) (l : List PortIn) :
    step (s.onPorts .idle none n (hostEdge none b :: l)) = .next (s.onPorts .idle none (n + 1) l) := by
  have hk : (s.onPorts .idle none n (hostEdge none b :: l)).edgeKind = .idle :=
    edgeKind_idle.mpr ⟨rfl, onPorts_breach_none s _ n b l (.inl rfl), rfl, rfl⟩
  rw [step, hk]
  exact congrArg Host.Outcome.next (onPorts_otherEdge s _ _ _ n b l)

/-- A request shown to an idle block is accepted and executed (30_encoding.md R67, 20_memory.md R46). -/
theorem step_onPorts_accept (s : State) {p : Option ReqWord} (n : Nat) (i : Instr) (b : Bool) (l : List PortIn)
    (h : p = none ∨ p = some (encode i)) :
    step (s.onPorts .idle p n (hostEdge (some (encode i)) b :: l)) =
      .next ((s.executed i).onPorts (.executing i (s.arch.answer i) n 0) none (n + 1) l) := by
  have hi : i = decodeReq (requestWord (requestEdge (encode i))) := by rw [requestWord_requestEdge, decodeReq_encode]
  have hk : (s.onPorts .idle p n (hostEdge (some (encode i)) b :: l)).edgeKind = .accept i :=
    edgeKind_accept.mpr ⟨rfl, onPorts_breach_none s _ n b l h, rfl, rfl, hi⟩
  rw [step, hk]
  exact congrArg (onNext State.acceptEdge) (exec_eq i _)

/-- A busy block whose response is not taken goes on to the next edge of its latency, or holds the response (30_encoding.md R70). -/
theorem step_onPorts_busy (s : State) (i : Instr) (r : Response) (d j n : Nat) {p q : Option ReqWord} {b : Bool} (l : List PortIn)
    (hq : p = none ∨ p = q) (hb : latency i d ≤ j → b = false) :
    step (s.onPorts (busyInterface i r d j) p n (hostEdge q b :: l)) = .next (s.onPorts (busyInterface i r d (j + 1)) q (n + 1) l) := by
  have hbreach (x : Interface) := onPorts_breach_none s x n b l hq
  have hrst (x : Interface) : (s.onPorts x p n (hostEdge q b :: l)).ports.rst = false := hostEdge_rst q b
  unfold busyInterface
  rcases Nat.lt_trichotomy (j + 1) (latency i d) with hj | hj | hj
  · rw [if_pos (by omega), if_pos hj, step, edgeKind_work.mpr ⟨hrst _, hbreach _, rfl, hj⟩]
    exact congrArg Host.Outcome.next (onPorts_otherEdge s _ p q n b l)
  · rw [if_pos (by omega), if_neg (by omega), step, edgeKind_complete.mpr ⟨hrst _, hbreach _, i, d, j, rfl, hj.ge⟩]
    exact congrArg Host.Outcome.next (onPorts_otherEdge s _ p q n b l)
  · have hwait : b = false := hb (by omega)
    rw [if_neg (by omega), if_neg (by omega), step,
      edgeKind_wait.mpr ⟨hrst _, hbreach _, ⟨r, rfl⟩, (hostEdge_rspReady q b).trans hwait⟩]
    exact congrArg Host.Outcome.next (onPorts_otherEdge s _ p q n b l)

/-- A host ready for a valid response takes it (30_encoding.md R70). -/
theorem step_onPorts_deliver (s : State) (r : Response) (n : Nat) {p q : Option ReqWord} (l : List PortIn) (hq : p = none ∨ p = q) :
    step (s.onPorts (.responding r) p n (hostEdge q true :: l)) = .next ((s.record (responseWord r)).onPorts .idle q (n + 1) l) := by
  have hk : (s.onPorts (.responding r) p n (hostEdge q true :: l)).edgeKind = .deliver r :=
    edgeKind_deliver.mpr ⟨hostEdge_rst q true, onPorts_breach_none s _ n true l hq, rfl, hostEdge_rspReady q true⟩
  rw [step, hk]
  exact congrArg Host.Outcome.next (onPorts_otherEdge (s.record (responseWord r)) _ p q n true l)

/-! ### Its runs -/

/-- A latency is at least 1 (70_reset_and_hazards.md R140). -/
theorem latency_pos (i : Instr) (d : Nat) : 0 < latency i d := by
  cases i <;> exact Nat.succ_pos _

/-- A run whose first edge is known. -/
theorem run_of_step {s t : State} (h : step s = .next t) (k : Nat) : run (k + 1) s = run k t := by
  rw [run, h]

/-- Edges that each lead from one position of the ports to the next lead from the first to the last. -/
theorem run_onPorts (s : State) {x : Nat → Interface} {p : Nat → Option ReqWord} {e : Nat → PortIn} {m n : Nat}
    (h : ∀ j < m, ∀ l, step (s.onPorts (x j) (p j) (n + j) (e j :: l)) = .next (s.onPorts (x (j + 1)) (p (j + 1)) (n + j + 1) l))
    (l : List PortIn) :
    run m (s.onPorts (x 0) (p 0) n ((List.range m).map e ++ l)) = .next (s.onPorts (x m) (p m) (n + m) l) := by
  induction m generalizing l with
  | zero => rfl
  | succ m ih =>
    have hm := ih (fun j hj => h j (by omega)) (e m :: l)
    rw [List.range_succ, List.map_append, List.append_assoc]
    exact (run_succ hm).trans (h m (by omega) l)

/-- Until the host raises its next request, an idle block stays idle (70_reset_and_hazards.md R139). -/
theorem run_gap (s : State) (u : Turn) (ready : Nat → Bool) (past n : Nat) (l : List PortIn) :
    run (u.raised - past)
        (s.onPorts .idle (outstanding (some u) past) n
          ((List.range (u.raised - past)).map (fun j => hostEdge none (ready (n + j))) ++ l)) =
      .next (s.onPorts .idle (outstanding (some u) (past + (u.raised - past))) (n + (u.raised - past)) l) := by
  refine run_onPorts s (x := fun _ => .idle) (p := fun j => outstanding (some u) (past + j)) (fun j hj l => ?_) l
  rw [outstanding_eq_none (by omega), outstanding_eq_none (by omega)]
  exact step_onPorts_idle s (n + j) _ l

/-- `busyScript` lists the busy edges. -/
theorem busyScript_eq (ready : Nat → Bool) (wait delay : Nat) (next : Option Turn) (n : Nat) :
    busyScript ready wait delay next n = (List.range (wait + delay + 1)).map (busyEdge ready wait delay next n) := by
  unfold busyScript busyEdge outstanding
  simp only [Nat.lt_succ_iff]

/-- The last of them takes the response. -/
theorem busyEdge_last (ready : Nat → Bool) (wait delay : Nat) (next : Option Turn) (n : Nat) :
    busyEdge ready wait delay next n (wait + delay) = hostEdge (outstanding next (wait + delay + 1)) true := by
  simp [busyEdge]

/-- From an acceptance to the edge that takes the response: the response joins the words taken (30_encoding.md R69, R70). -/
theorem run_busyScript (s : State) (i : Instr) (r : Response) (ready : Nat → Bool) (delay d n : Nat) (next : Option Turn) (l : List PortIn) :
    run (latency i d + delay + 1)
        (s.onPorts (.executing i r d 0) none n (busyScript ready (latency i d) delay next n ++ l)) =
      .next ((s.record (responseWord r)).onPorts .idle (outstanding next (latency i d + delay + 1)) (n + (latency i d + delay + 1)) l) := by
  have hstart : busyInterface i r d 0 = .executing i r d 0 := if_pos (latency_pos i d)
  have hend : busyInterface i r d (latency i d + delay) = .responding r := if_neg (by omega)
  have hbusy := run_onPorts s (x := busyInterface i r d) (p := outstanding next) (e := busyEdge ready (latency i d) delay next n)
    (m := latency i d + delay) (n := n)
    (fun j hj l => step_onPorts_busy s i r d j (n + j) l (outstanding_held next j) fun hvalid => by simp [hvalid.not_gt, hj.ne])
    (hostEdge (outstanding next (latency i d + delay + 1)) true :: l)
  rw [hstart, hend, outstanding_zero] at hbusy
  rw [busyScript_eq, List.range_succ, List.map_append, List.append_assoc, List.map_singleton, busyEdge_last, List.singleton_append,
    run_succ hbusy]
  exact step_onPorts_deliver s r _ l (outstanding_held next _)

theorem turnScript_length (ready : Nat → Bool) (past : Nat) (u : Turn) (next : Option Turn) (n : Nat) :
    (turnScript ready past u next n).length = u.raised - past + (u.busyEdges past n + 1) := by
  simp [turnScript, busyScript, Turn.busyEdges]

/-- The script is the first turn's and then the rest, which begins as many edges later. -/
theorem hostScript_cons (ready : Nat → Bool) (past : Nat) (u : Turn) (rest : List Turn) (n : Nat) :
    hostScript ready past (u :: rest) n = turnScript ready past u rest.head? n ++
      hostScript ready (u.busyEdges past n) rest (n + (turnScript ready past u rest.head? n).length) := by
  have hlen : n + (turnScript ready past u rest.head? n).length = n + (u.raised - past) + 1 + u.busyEdges past n := by
    rw [turnScript_length]; omega
  rw [hlen]
  simp [hostScript, turnScript, Turn.busyEdges]

/-- Over one turn the request is executed and its word taken: the edges before it, its acceptance, the edges until its response is
taken. -/
theorem run_turnScript (s : State) (ready : Nat → Bool) (past : Nat) (u : Turn) (next : Option Turn) (n : Nat) (l : List PortIn) :
    run (turnScript ready past u next n).length (s.onPorts .idle (outstanding (some u) past) n (turnScript ready past u next n ++ l)) =
      .next (((s.executed u.request).record (responseWord (s.arch.answer u.request))).onPorts .idle
        (outstanding next (u.busyEdges past n)) (n + (turnScript ready past u next n).length) l) := by
  have hshown : outstanding (some u) (past + (u.raised - past)) = none ∨
      outstanding (some u) (past + (u.raised - past)) = some (encode u.request) :=
    (outstanding_held _ _).imp_right fun h => h.trans (outstanding_eq_some (by omega))
  have hend : n + (u.raised - past + (u.busyEdges past n + 1)) = n + (u.raised - past) + 1 + u.busyEdges past n := by omega
  rw [turnScript_length, hend, turnScript, List.append_assoc, List.cons_append, run_add (run_gap s u ready past n _),
    run_of_step (step_onPorts_accept s _ u.request _ _ hshown)]
  exact run_busyScript _ u.request _ ready u.delay _ _ next l

/-- A host that does its duties has its requests answered in order, from any position at which the block is idle. -/
theorem run_hostScript (ready : Nat → Bool) (turns : List Turn) (s : State) (past n : Nat) :
    ∃ t, run (hostScript ready past turns n).length (s.onPorts .idle (outstanding turns.head? past) n (hostScript ready past turns n)) =
        .next t ∧
      t.taken = s.taken ++ (s.arch.answers (turns.map Turn.request)).map responseWord ∧
      t.arch = s.arch.afterAll (turns.map Turn.request) ∧ t.quiescent = true := by
  induction turns generalizing s past n with
  | nil => exact ⟨_, rfl, (List.append_nil _).symm, rfl, rfl⟩
  | cons u rest ih =>
    obtain ⟨t, hrun, htaken, harch, hquiet⟩ := ih ((s.executed u.request).record (responseWord (s.arch.answer u.request)))
      (u.busyEdges past n) (n + (turnScript ready past u rest.head? n).length)
    refine ⟨t, ?_, htaken.trans (List.append_assoc _ _ _), harch, hquiet⟩
    rw [hostScript_cons, List.length_append, List.head?_cons, run_add (run_turnScript s ready past u rest.head? n _)]
    exact hrun

/-- Settles O52: `run_hostScript` (an induction on the turns) at the first edge of the script, with nothing outstanding. -/
theorem requestsAreAnsweredInOrder : Obligations.RequestsAreAnsweredInOrder := by
  intro s turns ready hi hp hs
  have hstart : s = s.onPorts .idle (outstanding turns.head? 0) s.edge (hostScript ready 0 turns s.edge) := by
    rw [outstanding_zero, ← hi, ← hp, ← hs]
    rfl
  rw [hs]
  conv in run _ s => rw [hstart]
  exact run_hostScript ready turns s 0 s.edge

end Sys2Proof.Machine
end

section
/-! The statements about the request and response words, their decoder and the assembler (30_encoding.md). -/

namespace Sys2Proof.Machine

/-! ### The layout of the words -/

/-- Joining two words puts the first above the second. -/
theorem toNat_append_eq_add {n m : Nat} (x : BitVec n) (y : BitVec m) : (x ++ y).toNat = x.toNat * 2 ^ m + y.toNat := by
  rw [BitVec.toNat_append, ← Nat.shiftLeft_add_eq_or_of_lt y.isLt, Nat.shiftLeft_eq]

/-- The position of each field in a request word (30_encoding.md R61). -/
theorem packRequest_toNat (op : BitVec 2) (s : Shift) (w1 w2 : Weight) (c1 c2 : Color) :
    (packRequest op s w1 w2 c1 c2).toNat =
      op.toNat * 2 ^ 87 + s.toNat * 2 ^ 82 + w1.toNat * 2 ^ 65 + w2.toNat * 2 ^ 48 + c1.toNat * 2 ^ 24 + c2.toNat := by
  simp only [packRequest, toNat_append_eq_add]
  omega

/-- The bits above the other fields hold the code (30_encoding.md R61). -/
theorem reqOp_packRequest (op : BitVec 2) (s : Shift) (w1 w2 : Weight) (c1 c2 : Color) :
    reqOp (packRequest op s w1 w2 c1 c2) = op := by
  apply BitVec.eq_of_toNat_eq
  rw [reqOp, BitVec.extractLsb'_toNat, packRequest_toNat, Nat.shiftRight_eq_div_pow]
  omega

/-- Settles O3, by the layout of `packRequest`. -/
theorem requestWordHoldsThePorts : Obligations.RequestWordHoldsThePorts := by
  intro p
  obtain ⟨hc1, hc2, hw1, hw2, hs⟩ := packRequest_fields p.reqOp p.reqShift p.reqWeight1 p.reqWeight2 p.reqColor1 p.reqColor2
  exact ⟨packRequest_toNat .., reqOp_packRequest .., hs, hw1, hw2, hc1, hc2⟩

/-- Settles O6, by the position of each field of the response word. -/
theorem responseWordIsFlagsAndColor : Obligations.ResponseWordIsFlagsAndColor := by
  intro r
  simp only [responseWord, toNat_append_eq_add, BitVec.toNat_ofBool]
  omega

/-! ### The decoder and the encoder -/

/-- Settles O1: `decodeReq_encode`, which splits along the four operations. -/
theorem encodedOperationDecodesToItself : Obligations.EncodedOperationDecodesToItself :=
  decodeReq_encode

/-- A request word is its code and the 87 bits below it (30_encoding.md R61). -/
theorem reqOp_append_reqIgnored (w : ReqWord) : reqOp w ++ reqIgnored w = w :=
  BitVec.extractLsb'_append_extractLsb'

/-- The code of an operation stands in the `op` field of its word (30_encoding.md R62). -/
theorem reqOp_encode (i : Instr) : reqOp (encode i) = opcodeOf i := by
  cases i with
  | mixr c1 c2 w1 w2 s => exact Laws.OpcodeBits.mixr c1 c2 w1 w2 s
  | mixg c1 c2 w1 w2 s => exact Laws.OpcodeBits.mixg c1 c2 w1 w2 s
  | init x => exact Laws.OpcodeBits.init x
  | rsvd x => exact Laws.OpcodeBits.rsvd x

/-- The four rows of the operation table: what a word decodes to, by its `op` field alone (30_encoding.md R62, R75). -/
theorem decodeReq_cases (w : ReqWord) :
    (reqOp w = 0#2 ∧ decodeReq w = .mixr (reqColor1 w) (reqColor2 w) (reqWeight1 w) (reqWeight2 w) (reqShift w)) ∨
    (reqOp w = 1#2 ∧ decodeReq w = .mixg (reqColor1 w) (reqColor2 w) (reqWeight1 w) (reqWeight2 w) (reqShift w)) ∨
    (reqOp w = 2#2 ∧ decodeReq w = .init (reqIgnored w)) ∨
    (reqOp w = 3#2 ∧ decodeReq w = .rsvd (reqIgnored w)) := by
  obtain ⟨h1, h0⟩ := getLsbD_op w
  have hrow : reqOp w = 0#2 ∨ reqOp w = 1#2 ∨ reqOp w = 2#2 ∨ reqOp w = 3#2 := by
    generalize reqOp w = op
    revert op
    decide
  unfold decodeReq
  rw [h1, h0]
  obtain h | h | h | h := hrow <;> simp [h]

/-- Every word is the word of what it decodes to (30_encoding.md R75). -/
theorem encode_decodeReq (w : ReqWord) : encode (decodeReq w) = w := by
  have hfields : packRequest (reqOp w) (reqShift w) (reqWeight1 w) (reqWeight2 w) (reqColor1 w) (reqColor2 w) = w :=
    requestWord_requestEdge w
  have hignored := reqOp_append_reqIgnored w
  obtain ⟨hop, hd⟩ | ⟨hop, hd⟩ | ⟨hop, hd⟩ | ⟨hop, hd⟩ := decodeReq_cases w
  · rw [hd, encode, ← hop, hfields]
  · rw [hd, encode, ← hop, hfields]
  · rw [hd, encode, ← hop, hignored]
  · rw [hd, encode, ← hop, hignored]

/-- What a word decodes to has the code of the word's `op` field (30_encoding.md R62). -/
theorem opcodeOf_decodeReq (w : ReqWord) : opcodeOf (decodeReq w) = reqOp w := by
  rw [← reqOp_encode, encode_decodeReq]

/-- Settles O2: the decoder and the encoder are inverse to each other. -/
theorem everyWordIsExactlyOneRequest : Obligations.EveryWordIsExactlyOneRequest := by
  intro w
  refine ⟨encode_decodeReq w, fun i hi => ?_, opcodeOf_decodeReq w⟩
  rw [← hi, decodeReq_encode]

/-- The mask of the operation table keeps the code and clears the rest (30_encoding.md R62). -/
theorem opMask_eq_iff (w : ReqWord) (op : BitVec 2) : w &&& 0x18000000000000000000000#89 = op ++ 0#87 ↔ reqOp w = op := by
  have hmask : w &&& 0x18000000000000000000000#89 = reqOp w ++ 0#87 := by
    calc w &&& 0x18000000000000000000000#89
        = (reqOp w ++ reqIgnored w) &&& (BitVec.allOnes 2 ++ 0#87) := by rw [reqOp_append_reqIgnored]; rfl
      _ = reqOp w ++ 0#87 := by rw [BitVec.and_append, BitVec.and_allOnes, BitVec.and_zero]
  rw [hmask, BitVec.append_left_inj]

/-- Settles O4: each match holds exactly for its code, and the code selects the row. -/
theorem operationCodeSelectsTheRow : Obligations.OperationCodeSelectsTheRow := by
  intro w
  refine ⟨(opMask_eq_iff w 0#2).trans ?_, (opMask_eq_iff w 1#2).trans ?_, (opMask_eq_iff w 2#2).trans ?_,
    (opMask_eq_iff w 3#2).trans ?_⟩
  all_goals obtain ⟨hop, hd⟩ | ⟨hop, hd⟩ | ⟨hop, hd⟩ | ⟨hop, hd⟩ := decodeReq_cases w <;> simp [hop, hd]

/-- Settles O5, by decoding the six words. -/
theorem sampleWordsDecode : Obligations.SampleWordsDecode := by
  unfold Obligations.SampleWordsDecode
  decide

/-- Settles O8: the effect and the response of `exec_eq` do not read the ignored bits. -/
theorem ignoredFieldsHaveNoEffect : Obligations.IgnoredFieldsHaveNoEffect :=
  fun x y s => ⟨⟨_, _, exec_eq (.init x) s, exec_eq (.init y) s, rfl, rfl⟩,
    ⟨_, _, exec_eq (.rsvd x) s, exec_eq (.rsvd y) s, rfl, rfl, rfl, rfl⟩⟩

/-! ### The assembler -/

/-- The operands of a blend fit their fields (30_encoding.md R63, R71). -/
theorem blendError_eq_none {c1 c2 w1 w2 s : Nat} :
    blendError c1 c2 w1 w2 s = none ↔ c1 < 2 ^ 24 ∧ c2 < 2 ^ 24 ∧ w1 ≤ 131071 ∧ w2 ≤ 131071 ∧ s ≤ 31 := by
  simp only [blendError, colorFits, weightFits, shiftFits, Bool.not_eq_true', Bool.and_eq_false_iff, decide_eq_false_iff_not,
    Nat.not_le]
  split_ifs with hcolor hweight hshift
  · exact iff_of_false nofun (by omega)
  · exact iff_of_false nofun (by omega)
  · exact iff_of_false nofun (by omega)
  · exact iff_of_true rfl (by omega)

/-- A number that fits its field is the field's value (30_encoding.md R63). -/
theorem toNat_ofNat_of_lt {n k : Nat} (h : k < 2 ^ n) : (BitVec.ofNat n k).toNat = k := by
  rw [BitVec.toNat_ofNat, Nat.mod_eq_of_lt h]

/-- A line with nothing wrong stands for its expansion (30_encoding.md R71). -/
theorem assemble_of_error_none {l : SourceLine} (h : l.error? = none) : assemble l = .ok (expand l) := by
  rw [assemble, h]

/-- A line with something wrong is refused by that name (93_implementation_defined.md U9). -/
theorem assemble_of_error_some {l : SourceLine} {e : SourceError} (h : l.error? = some e) : assemble l = .error e := by
  rw [assemble, h]

/-- Exactly the well-formed lines assemble (93_implementation_defined.md U9). -/
theorem assemble_ok_iff (l : SourceLine) : (∃ a, assemble l = .ok a) ↔ l.wellFormed = true := by
  unfold SourceLine.wellFormed
  cases h : l.error? with
  | none => simp [assemble_of_error_none h]
  | some e => simp [assemble_of_error_some h]

/-- Settles O9: a blend line's only errors are operands too wide, and a number that fits its field is that field's value. -/
theorem assemblerNeverReducesOperands : Obligations.AssemblerNeverReducesOperands := by
  refine ⟨assemble_ok_iff, fun c1 c2 w1 w2 s hc1 hc2 hw1 hw2 hs => ?_, fun c1 c2 w1 w2 s hwide => ?_⟩
  · have hnone : blendError c1 c2 w1 w2 s = none := blendError_eq_none.mpr ⟨hc1, hc2, hw1, hw2, hs⟩
    refine ⟨_, _, _, _, _, toNat_ofNat_of_lt hc1, toNat_ofNat_of_lt hc2, toNat_ofNat_of_lt (Nat.lt_succ_of_le hw1),
      toNat_ofNat_of_lt (Nat.lt_succ_of_le hw2), toNat_ofNat_of_lt (Nat.lt_succ_of_le hs), ?_, ?_⟩
    · exact assemble_of_error_none hnone
    · exact assemble_of_error_none hnone
  · obtain ⟨e, he⟩ := Option.ne_none_iff_exists'.mp (mt blendError_eq_none.mp hwide)
    exact ⟨e, assemble_of_error_some he, assemble_of_error_some he⟩

/-- Settles O10: the pseudo-operations have the errors and the expansion of the lines they stand for, after the check of the mode. -/
theorem pseudoOperationsExpand : Obligations.PseudoOperationsExpand := by
  refine ⟨fun _ _ _ _ _ => rfl, fun _ _ _ _ _ => rfl, fun _ _ _ => rfl, fun c1 c2 w1 w2 s g hg => ?_⟩
  have hmode : modeFits g = false := decide_eq_false (Nat.not_le_of_lt hg)
  exact assemble_of_error_some (by simp [SourceLine.error?, hmode])

end Sys2Proof.Machine
end

section
/-! The statements about the two ports and the step (30_encoding.md R67 to R70): acceptance, the host's duty, the busy block and the
response. -/

namespace Sys2Proof.Machine

/-! ### Acceptance -/

/-- Not busy is idle (30_encoding.md R69). -/
theorem busy_eq_false {x : Interface} : x.busy = false ↔ x = .idle := by
  cases x <;> simp [Interface.busy]

/-- When `req_ready` is 1 (30_encoding.md R69, 70_reset_and_hazards.md R130). -/
theorem outputs_reqReady_iff {s : State} : s.outputs.reqReady = true ↔ s.iface = .idle ∧ s.ports.rst = false := by
  simp [outputs_reqReady, busy_eq_false]

/-- An edge that accepts an operation runs it (30_encoding.md R67). -/
theorem step_of_accept {s : State} {i : Instr} (h : s.edgeKind = .accept i) : step s = onNext State.acceptEdge (exec i s) := by
  rw [step, h]

/-- A request shown to an idle block, by a host that has nothing else outstanding, is accepted (30_encoding.md R67). -/
theorem edgeKind_of_request {s : State} (hi : s.iface = .idle) (hr : s.ports.rst = false) (hv : s.ports.reqValid = true)
    (hp : s.presented = none ∨ s.presented = some (requestWord s.ports)) : s.edgeKind = .accept (decodeReq (requestWord s.ports)) :=
  edgeKind_accept.mpr ⟨hr, breach_none (by rwa [shownRequest, if_pos hv]), hi, hv, rfl⟩

/-- Settles O38: such an edge accepts what the word decodes to, and `State.acceptEdge` writes the three fields. -/
theorem stepRunsTheDecodedRequest : Obligations.StepRunsTheDecodedRequest := by
  intro s hi hr hv hp
  rw [step_of_accept (edgeKind_of_request hi hr hv hp)]
  cases exec (decodeReq (requestWord s.ports)) s <;> rfl

/-- The number of a request word decodes to the word's operation (30_encoding.md R65, R75; log entry 13). -/
theorem decodeTableWord_encode (i : Instr) (n : Nat) : decodeTableWord n (encode i).toNat = some i := by
  simp [decodeTableWord, decodeNat, (encode i).isLt, decodeReq_encode, Except.toOption]

/-- The number of a request word is presented as that word (log entries 12, 13). -/
theorem withFetchWord_toNat (s : State) (n : Nat) (w : ReqWord) : s.withFetchWord n w.toNat = s.present w := by
  rw [State.withFetchWord, if_pos w.isLt, BitVec.ofNat_toNat, BitVec.setWidth_eq]

/-- An operation whose word is presented is accepted at the next edge (log entry 12). -/
theorem edgeKind_present (s : State) (i : Instr) : (s.present (encode i)).edgeKind = .accept i := by
  have hword : requestWord (s.present (encode i)).ports = encode i := requestWord_requestEdge (encode i)
  rw [edgeKind_of_request rfl rfl rfl (.inl rfl), hword, decodeReq_encode]

/-- Settles O39: the placed number is its word, and the next edge accepts it. -/
theorem placedRequestRunsNext : Obligations.PlacedRequestRunsNext := by
  intro s i n
  refine ⟨decodeTableWord_encode i n, ?_⟩
  rw [withFetchWord_toNat, step_of_accept (edgeKind_present s i)]

/-! ### The request payload -/

/-- What the ports show is a request word only with `req_valid` = 1 (30_encoding.md R67). -/
theorem shownRequest_eq_some {p : PortIn} {w : ReqWord} : shownRequest p = some w ↔ p.reqValid = true ∧ requestWord p = w := by
  simp [shownRequest]

/-- With `req_valid` = 0 they show none (30_encoding.md R67). -/
theorem shownRequest_eq_none {p : PortIn} : shownRequest p = none ↔ p.reqValid = false := by
  simp [shownRequest]

/-- Settles O45: such an edge is idle, and nothing stays outstanding. -/
theorem quietEdgeChangesNothing : Obligations.QuietEdgeChangesNothing := by
  intro s hi hp hr hv
  have hother : s.otherEdge = { s with script := s.script.tail, edge := s.edge + 1 } := by
    rw [State.otherEdge, shownRequest_eq_none.mpr hv, ← hp]
    rfl
  refine ⟨outputs_reqReady_iff.mpr ⟨hi, hr⟩, ?_⟩
  rw [step, edgeKind_idle.mpr ⟨hr, breach_none (.inl hp), hi, hv⟩, hother]

/-- When the host has broken its duty, and how (30_encoding.md R68). -/
theorem breach_eq_some {s : State} {f : Refusal} :
    s.breach? = some f ↔ ∃ w, s.presented = some w ∧
      ((f = .requestWithdrawn ∧ s.ports.reqValid = false) ∨
       (f = .requestAltered ∧ s.ports.reqValid = true ∧ requestWord s.ports ≠ w)) := by
  unfold State.breach?
  cases s.presented with
  | none => simp
  | some w => cases s.ports.reqValid <;> simp [eq_comm, and_comm]

/-- With `req_valid` = 0 the payload does not enter the host's duty: any outstanding request is withdrawn (30_encoding.md R68). -/
theorem breach_of_not_valid {s : State} (h : s.ports.reqValid = false) :
    s.breach? = s.presented.map fun _ => .requestWithdrawn := by
  unfold State.breach?
  cases s.presented <;> simp [h]

section
variable {s : State} {p q : PortIn} {rest : List PortIn} (hp : p.reqValid = false) (hq : q.reqValid = false) (hrst : p.rst = q.rst)
  (hready : p.rspReady = q.rspReady)
include hp hq

/-- With `req_valid` = 0 nothing stays outstanding, whatever the payload (30_encoding.md R67). -/
theorem otherEdge_payload_ignored (s : State) :
    State.otherEdge { s with script := p :: rest } = State.otherEdge { s with script := q :: rest } := by
  have hshown : shownRequest p = shownRequest q := (shownRequest_eq_none.mpr hp).trans (shownRequest_eq_none.mpr hq).symm
  simp only [State.otherEdge, State.ports, List.headD_cons, hshown]
  rfl

include hrst hready

/-- With `req_valid` = 0 the kind of the edge does not depend on the payload (30_encoding.md R67). -/
theorem edgeKind_payload_ignored : State.edgeKind { s with script := p :: rest } = State.edgeKind { s with script := q :: rest } := by
  have hbreach : State.breach? { s with script := p :: rest } = State.breach? { s with script := q :: rest } :=
    (breach_of_not_valid (s := { s with script := p :: rest }) hp).trans
      (breach_of_not_valid (s := { s with script := q :: rest }) hq).symm
  unfold State.edgeKind
  rw [hbreach]
  simp [State.ports, hp, hq, hrst, hready]

/-- Nor does the edge itself. -/
theorem step_payload_ignored : step { s with script := p :: rest } = step { s with script := q :: rest } := by
  have hother := otherEdge_payload_ignored (rest := rest) hp hq
  unfold step
  rw [← edgeKind_payload_ignored hp hq hrst hready]
  cases hk : State.edgeKind { s with script := p :: rest } with
  | reset => rfl
  | breach f => rfl
  | accept i =>
    obtain ⟨-, -, -, hv, -⟩ := edgeKind_accept.mp hk
    cases hp.symm.trans hv
  | idle => exact congrArg _ (hother s)
  | work i r d a => exact congrArg _ (hother (s.withInterface _))
  | complete r => exact congrArg _ (hother (s.withInterface _))
  | deliver r => exact congrArg _ (hother ((s.withInterface _).record _))
  | wait => exact congrArg _ (hother s)

end

/-- When an edge delivers a response, as the ports show it (30_encoding.md R67). -/
theorem edgeKind_deliver_ports {s : State} {r : Response} (hb : s.breach? = none) :
    s.edgeKind = .deliver r ↔ s.ports.rst = false ∧ s.outputs.rspValid = true ∧ s.ports.rspReady = true ∧
      r = { ill := s.outputs.rspIll, uninit := s.outputs.rspUninit, ovf := s.outputs.rspOvf, color := s.outputs.rspColor } := by
  constructor
  · intro h
    obtain ⟨hr, -, hi, hready⟩ := edgeKind_deliver.mp h
    exact ⟨hr, (outputs_rspValid s).mpr ⟨hr, r, hi⟩, hready, by rw [outputs_responding hi hr]⟩
  · rintro ⟨hr, hv, hready, hshown⟩
    obtain ⟨-, q, hi⟩ := (outputs_rspValid s).mp hv
    rw [outputs_responding hi hr] at hshown
    exact edgeKind_deliver.mpr ⟨hr, hb, hshown ▸ hi, hready⟩

/-- Settles O40: the kinds of edge read on the ports, and a payload that is not valid enters neither the kind of the edge nor its effect. -/
theorem handshakeTransfers : Obligations.HandshakeTransfers := by
  refine ⟨fun s hb => ⟨fun i => ?_, fun r => edgeKind_deliver_ports hb⟩,
    fun s p q rest hp hq hrst hready => step_payload_ignored hp hq hrst hready⟩
  rw [edgeKind_accept, outputs_reqReady_iff]
  tauto

/-! ### The host's duty -/

/-- A step is refused only at an edge where the host broke its duty (30_encoding.md R68). -/
theorem step_refused {s : State} {f : Refusal} : step s = .refused f ↔ s.edgeKind = .breach f := by
  unfold step
  cases s.edgeKind with
  | accept i => simp [exec_eq, onNext]
  | _ => simp

/-- What is outstanding after an edge: what was shown there, unless it was accepted or reset (30_encoding.md R68). -/
theorem step_presented {s t : State} (h : step s = .next t) :
    t.presented = if s.ports.rst || s.outputs.reqReady then none else shownRequest s.ports := by
  obtain ⟨hk, rfl⟩ | ⟨i, u, hk, -, rfl⟩ | ⟨hk, rfl⟩ | ⟨i, r, d, a, hk, rfl⟩ | ⟨r, hk, rfl⟩ | ⟨r, hk, rfl⟩ | ⟨hk, rfl⟩ := step_cases h
  · simp [edgeKind_reset.mp hk]
  · obtain ⟨hr, -, hi, -⟩ := edgeKind_accept.mp hk
    simp [outputs_reqReady_iff.mpr ⟨hi, hr⟩]
  · obtain ⟨-, -, -, hv⟩ := edgeKind_idle.mp hk
    simp [shownRequest_eq_none.mpr hv]
  · obtain ⟨hr, -, hi, -⟩ := edgeKind_work.mp hk
    simp [hr, hi, outputs_reqReady, Interface.busy]
  · obtain ⟨hr, -, j, d, a, hi, -⟩ := edgeKind_complete.mp hk
    simp [hr, hi, outputs_reqReady, Interface.busy]
  · obtain ⟨hr, -, hi, -⟩ := edgeKind_deliver.mp hk
    simp [hr, hi, outputs_reqReady, Interface.busy]
  · obtain ⟨hr, -, ⟨r, hi⟩, -⟩ := edgeKind_wait.mp hk
    simp [hr, hi, outputs_reqReady, Interface.busy]

/-- The outputs read the interface state, the edge number and `rst` only (30_encoding.md R68, R70; log entry 10). -/
theorem outputs_congr {s t : State} (hi : s.iface = t.iface) (he : s.edge = t.edge) (hr : s.ports.rst = t.ports.rst) :
    s.outputs = t.outputs := by
  simp only [State.outputs, State.shownResponse, State.reqReady, hi, he, hr]

/-- Settles O41, by the refusal, the outstanding request and the outputs of an edge. -/
theorem hostMustHoldItsRequest : Obligations.HostMustHoldItsRequest := by
  refine ⟨fun s f => ?_, fun s t w h => ?_, fun s p q rest hr => outputs_congr rfl rfl hr⟩
  · rw [step_refused, edgeKind_breach, breach_eq_some]
  · rw [step_presented h]
    cases s.ports.rst <;> cases s.outputs.reqReady <;> simp [shownRequest_eq_some]

/-! ### The busy block and its response -/

/-- Settles O42: of the moves of `step_move` only a delivery and those that keep the response begin in a busy block. -/
theorem busyBlockAcceptsNothing : Obligations.BusyBlockAcceptsNothing := by
  refine ⟨fun s hr => by simp [outputs_reqReady, hr], fun s i hk => ?_, fun s t hr hb h => ?_⟩
  · obtain ⟨t, ht, -, hi, -⟩ := step_accept hk
    exact ⟨t, ht, by rw [hi]; rfl⟩
  · obtain ⟨hk, -⟩ | ⟨i, hk, -⟩ | ⟨r, hk, ha, hi, -⟩ | ⟨-, ha, hrsp, -⟩ := step_move h
    · simp [edgeKind_reset.mp hk] at hr
    · obtain ⟨-, -, hidle, -⟩ := edgeKind_accept.mp hk
      simp [busy_eq_false.mpr hidle] at hb
    · obtain ⟨-, -, hs, hready⟩ := edgeKind_deliver.mp hk
      exact ⟨ha, .inr ⟨(outputs_rspValid s).mpr ⟨hr, r, hs⟩, hready, hi⟩⟩
    · exact ⟨ha, .inl hrsp⟩

/-- Settles O43: with `rsp_ready` = 0 the edge waits, with `rsp_ready` = 1 it delivers. -/
theorem responseIsHeldUntilTaken : Obligations.ResponseIsHeldUntilTaken := by
  intro s r hi hr hb
  refine ⟨outputs_responding hi hr, fun hready => ⟨s.otherEdge, ?_, hi, rfl, rfl⟩, fun hready => ⟨s.deliverEdge r, ?_, rfl, rfl, rfl, ?_⟩⟩
  · rw [step, edgeKind_wait.mpr ⟨hr, hb, ⟨r, hi⟩, hready⟩]
  · rw [step, edgeKind_deliver.mpr ⟨hr, hb, hi, hready⟩]
  · rw [Bool.eq_false_iff, ne_eq, outputs_rspValid]
    simp

end Sys2Proof.Machine
end

section
/-! The statements about the constant tables and `INIT` (40_init.md): the entries against their formula (R81), the facts read off them
(R84 to R86), and what one `INIT` and a second one do (R83, R87). -/

namespace Sys2Proof.Machine

/-! ### The tables against their formula -/

/-- The rounding of R81: the entry of exponent `a` at index `i`, over the real numbers. -/
noncomputable def roundedPower (a : ℝ) (i : ℕ) : ℤ := ⌊((i : ℝ) / 256) ^ a * 256 + 0.5⌋

/-- Whether `n` is within one half of `(i/256)^(p/q) * 256` by the rule of R81 (halves round up): both sides of the bounds are raised
to the power `q` and freed of their denominators. For `n` = 0 the lower bound is empty. -/
def withinHalf (p q i n : ℕ) : Bool :=
  (2 * n - 1) ^ q * 256 ^ p ≤ i ^ p * 512 ^ q && i ^ p * 512 ^ q < (2 * n + 1) ^ q * 256 ^ p

/-- A rational power of `i/256`, with the root taken away. -/
theorem rpow_div_pow (p i : ℕ) {q : ℕ} (hq : q ≠ 0) : ((((i : ℝ) / 256) ^ ((p : ℝ) / q)) * 512) ^ q * 256 ^ p = i ^ p * 512 ^ q := by
  have hroot : (((i : ℝ) / 256) ^ ((p : ℝ) / q)) ^ q = ((i : ℝ) / 256) ^ p := by
    rw [← Real.rpow_mul_natCast (by positivity), div_mul_cancel₀ _ (by exact_mod_cast hq), Real.rpow_natCast]
  rw [mul_pow, hroot, div_pow]
  field_simp

/-- The integer bounds decide the rounding of a rational power. -/
theorem roundedPower_eq {p q i n : ℕ} (hq : q ≠ 0) (h : withinHalf p q i n = true) : roundedPower ((p : ℝ) / q) i = n := by
  simp only [withinHalf, Bool.and_eq_true, decide_eq_true_eq] at h
  obtain ⟨hlo, hhi⟩ := h
  have hpow := rpow_div_pow p i hq
  rw [roundedPower]
  set y := ((i : ℝ) / 256) ^ ((p : ℝ) / q)
  have hy : 0 ≤ y * 512 := by positivity
  have hlower : ((2 * n - 1 : ℕ) : ℝ) ≤ y * 512 := by
    refine le_of_pow_le_pow_left₀ hq hy (le_of_mul_le_mul_right ?_ (by positivity : (0 : ℝ) < 256 ^ p))
    rw [hpow]
    exact_mod_cast hlo
  have hupper : y * 512 < ((2 * n + 1 : ℕ) : ℝ) := by
    refine lt_of_pow_lt_pow_left₀ q (by positivity) (lt_of_mul_lt_mul_right ?_ (by positivity : (0 : ℝ) ≤ 256 ^ p))
    rw [hpow]
    exact_mod_cast hhi
  have hpred : (2 * n : ℝ) ≤ ((2 * n - 1 : ℕ) : ℝ) + 1 := by exact_mod_cast (by omega : 2 * n ≤ 2 * n - 1 + 1)
  push_cast at hupper
  rw [Int.floor_eq_iff, Int.cast_natCast]
  constructor <;> linarith

/-- A check of every entry beside its index, in one pass over the table, holds of every read. -/
theorem readEntry_of_all {t : Table} {P : Entry → ℕ → Bool} (h : (t.entries.zipIdx.all fun x => P x.1 x.2) = true) (i : Index) :
    P (readEntry t i) i.toNat = true :=
  List.all_eq_true.mp h (readEntry t i, i.toNat) (List.mk_mem_zipIdx_iff_getElem?.mpr (List.getElem?_eq_getElem _))

/-- R81 for `GAMMA_ROM`, whose exponent is 11/5, in integers. -/
theorem gammaRom_withinHalf (i : Index) : withinHalf 11 5 i.toNat (readEntry gammaRom i).toNat = true :=
  readEntry_of_all (P := fun e n => withinHalf 11 5 n e.toNat) (by decide +kernel) i

/-- R81 for `IGAMMA_ROM`, whose exponent is 5/11, in integers. -/
theorem igammaRom_withinHalf (i : Index) : withinHalf 5 11 i.toNat (readEntry igammaRom i).toNat = true :=
  readEntry_of_all (P := fun e n => withinHalf 5 11 n e.toNat) (by decide +kernel) i

/-- R81 for `GAMMA_ROM`. -/
theorem readEntry_gammaRom (i : Index) : ((readEntry gammaRom i).toNat : ℤ) = roundedPower 2.2 i.toNat := by
  rw [← roundedPower_eq (by decide) (gammaRom_withinHalf i)]
  norm_num

/-- R81 for `IGAMMA_ROM`. -/
theorem readEntry_igammaRom (i : Index) : ((readEntry igammaRom i).toNat : ℤ) = roundedPower (1 / 2.2) i.toNat := by
  rw [← roundedPower_eq (by decide) (igammaRom_withinHalf i)]
  norm_num

/-- Settles O32, by deciding the rounding of both rational powers with the integers of `withinHalf`. -/
theorem tablesAreTheRoundedPowers : Obligations.TablesAreTheRoundedPowers :=
  fun i => ⟨readEntry_gammaRom i, readEntry_igammaRom i⟩

/-! ### What is read off the tables -/

/-- A rounded power with an exponent that is not negative grows with the index. -/
theorem roundedPower_mono {a : ℝ} (ha : 0 ≤ a) {i j : ℕ} (h : i ≤ j) : roundedPower a i ≤ roundedPower a j := by
  unfold roundedPower
  gcongr

/-- A table of rounded powers never falls (R86 item 1). -/
theorem readEntry_mono {t : Table} {a : ℝ} (ha : 0 ≤ a) (ht : ∀ i : Index, ((readEntry t i).toNat : ℤ) = roundedPower a i.toNat)
    {i j : Index} (h : i.toNat ≤ j.toNat) : (readEntry t i).toNat ≤ (readEntry t j).toNat := by
  have hmono := roundedPower_mono ha h
  rw [← ht, ← ht] at hmono
  exact_mod_cast hmono

theorem readEntry_gammaRom_mono {i j : Index} (h : i.toNat ≤ j.toNat) : (readEntry gammaRom i).toNat ≤ (readEntry gammaRom j).toNat :=
  readEntry_mono (by norm_num) readEntry_gammaRom h

theorem readEntry_igammaRom_mono {i j : Index} (h : i.toNat ≤ j.toNat) : (readEntry igammaRom i).toNat ≤ (readEntry igammaRom j).toNat :=
  readEntry_mono (by norm_num) readEntry_igammaRom h

/-- No entry of `GAMMA_ROM` is above its last (R86 item 4). -/
theorem readEntry_gammaRom_le (i : Index) : (readEntry gammaRom i).toNat ≤ 254 :=
  readEntry_gammaRom_mono (j := 255#8) (Nat.le_of_lt_succ i.isLt)

/-- Only the last entry of `IGAMMA_ROM` is above 255 (R86 item 4). -/
theorem readEntry_igammaRom_le {i : Index} (h : i.toNat ≤ 254) : (readEntry igammaRom i).toNat ≤ 255 :=
  readEntry_igammaRom_mono (j := 254#8) h

/-- `GAMMA_ROM` is 0 up to index 15 and no further (R86 item 5). -/
theorem readEntry_gammaRom_eq_zero_iff (i : Index) : readEntry gammaRom i = 0#9 ↔ i.toNat ≤ 15 := by
  refine ⟨fun h => ?_, fun h => ?_⟩
  · by_contra hi
    have hone : 1 ≤ (readEntry gammaRom i).toNat := readEntry_gammaRom_mono (i := 16#8) (Nat.lt_of_not_le hi)
    simp [h] at hone
  · have hzero : (readEntry gammaRom i).toNat ≤ 0 := readEntry_gammaRom_mono (j := 15#8) h
    exact BitVec.eq_of_toNat_eq (Nat.le_zero.mp hzero)

/-- In a table that never falls equal entries stand together, so one pass finds the distinct ones. -/
theorem dedup_of_isChain {t : Table} (h : t.entries.IsChain (· ≤ ·)) : t.entries.dedup = t.entries.destutter (· ≠ ·) :=
  (List.isChain_iff_pairwise.mp h).destutter_eq_dedup.symm

theorem gammaRom_distinct : gammaRom.entries.dedup.length = 184 := by
  rw [dedup_of_isChain (by decide +kernel)]
  decide +kernel

theorem igammaRom_distinct : igammaRom.entries.dedup.length = 185 := by
  rw [dedup_of_isChain (by decide +kernel)]
  decide +kernel

/-- Settles O33: the order and the ranges follow from the monotone formula and the end points, the counts and sums are evaluated. -/
theorem tableFacts : Obligations.TableFacts := by
  refine ⟨fun i hi => ?_, rfl, rfl, rfl, rfl, fun i => ⟨readEntry_gammaRom_le i, fun hi => readEntry_igammaRom_le ?_⟩, rfl,
    readEntry_gammaRom_eq_zero_iff, rfl, gammaRom_distinct, igammaRom_distinct, by decide +kernel, by decide +kernel⟩
  · have hnext : i.toNat ≤ (i + 1#8).toNat := by bv_omega
    exact ⟨readEntry_gammaRom_mono hnext, readEntry_igammaRom_mono hnext⟩
  · bv_omega

/-! ### The round trip -/

/-- The index that the round trip reads `IGAMMA_ROM` at loses nothing: no gamma entry has its ninth bit set. -/
theorem gammaRom_setWidth_toNat (v : Channel) : ((readEntry gammaRom v).setWidth 8).toNat = (readEntry gammaRom v).toNat := by
  have hle := readEntry_gammaRom_le v
  rw [BitVec.toNat_setWidth]
  omega

/-- The clamp of the round trip never acts (R86 item 6). -/
theorem roundTrip_unclamped (v : Channel) : (readEntry igammaRom ((readEntry gammaRom v).setWidth 8)).toNat ≤ 255 :=
  readEntry_igammaRom_le (gammaRom_setWidth_toNat v ▸ readEntry_gammaRom_le v)

/-- From 120 up the round trip is the identity (R86 item 6). -/
theorem roundTrip_eq_self {v : Channel} (h : 120 ≤ v.toNat) : roundTrip v = v := by
  have hall := readEntry_of_all (t := gammaRom)
    (P := fun e n => n < 120 || (saturate (readEntry igammaRom (e.setWidth 8))).toNat == n) (by decide +kernel) v
  simp only [Bool.or_eq_true, decide_eq_true_eq, beq_iff_eq] at hall
  exact BitVec.eq_of_toNat_eq (hall.resolve_left (Nat.not_lt.mpr h))

/-- `roundTrip_eq_self` for the numbers that the counts and sums of R86 run over. -/
theorem roundTrip_of_mem_range' {n : ℕ} (h : n ∈ List.range' 120 136) : roundTrip (BitVec.ofNat 8 n) = BitVec.ofNat 8 n := by
  refine roundTrip_eq_self ?_
  rw [List.mem_range'_1] at h
  rw [toNat_ofNat_of_lt (by omega)]
  exact h.1

/-- The channels below 120, where the round trip loses something, and the others. -/
theorem range_channels : List.range 256 = List.range 120 ++ List.range' 120 136 := by decide +kernel

/-- The round trip moves no channel by more than 15 (R86 item 6). -/
theorem roundTrip_error_le (v : Channel) : (roundTrip v).toNat ≤ v.toNat + 15 ∧ v.toNat ≤ (roundTrip v).toNat + 15 := by
  by_cases h : 120 ≤ v.toNat
  · rw [roundTrip_eq_self h]
    omega
  · have hlow : ∀ n < 120, (roundTrip (BitVec.ofNat 8 n)).toNat ≤ n + 15 ∧ n ≤ (roundTrip (BitVec.ofNat 8 n)).toNat + 15 := by
      decide +kernel
    simpa using hlow v.toNat (Nat.lt_of_not_le h)

/-- There are 184 fixed points: all of the 136 channels from 120 up, and 48 below (R86 item 6). -/
theorem roundTrip_fixed_count :
    ((List.range 256).filter fun v => roundTrip (BitVec.ofNat 8 v) = BitVec.ofNat 8 v).length = 184 := by
  have hlow : ((List.range 120).filter fun v => roundTrip (BitVec.ofNat 8 v) = BitVec.ofNat 8 v).length = 48 := by decide +kernel
  rw [range_channels, List.filter_append, List.length_append, hlow,
    List.filter_eq_self.mpr fun v hv => decide_eq_true (roundTrip_of_mem_range' hv), List.length_range']

/-- The sum of the round trip: the channels from 120 up themselves, and 7035 below (R86 item 6). -/
theorem roundTrip_sum : ((List.range 256).map fun v => (roundTrip (BitVec.ofNat 8 v)).toNat).sum = 32535 := by
  have hlow : ((List.range 120).map fun v => (roundTrip (BitVec.ofNat 8 v)).toNat).sum = 7035 := by decide +kernel
  have hhigh : ((List.range' 120 136).map fun v => (BitVec.ofNat 8 v).toNat).sum = 25500 := by decide +kernel
  rw [range_channels, List.map_append, List.sum_append, hlow,
    List.map_congr_left fun v hv => congrArg BitVec.toNat (roundTrip_of_mem_range' hv), hhigh]

/-- Settles O34: the clamp by the ranges of the two tables, the rest by evaluating the round trip below 120 and the identity above. -/
theorem roundTripFacts : Obligations.RoundTripFacts :=
  ⟨roundTrip_unclamped, fun _ => roundTrip_eq_self, by decide +kernel, roundTrip_fixed_count, roundTrip_sum, roundTrip_error_le, rfl⟩

/-! ### `INIT` -/

/-- The response of an operation is that of the architectural state (60_exceptions.md R121). -/
theorem responseOf_eq (i : Instr) (s : State) : responseOf i s = some (s.arch.answer i) := by
  rw [responseOf, exec_eq]
  rfl

/-- Settles O15: the whole effect of `INIT` is that of `exec_eq`. -/
theorem initCompletesWithTablesLoaded : Obligations.InitCompletesWithTablesLoaded :=
  fun x s => ⟨_, exec_eq (.init x) s, fun _ => ⟨rfl, rfl⟩, rfl, rfl⟩

/-- Settles O23: `INIT` leaves one architectural state whatever it found, and responses depend on nothing else. -/
theorem repeatedInitChangesNothing : Obligations.RepeatedInitChangesNothing :=
  fun x y s => ⟨_, _, exec_eq (.init x) s, exec_eq (.init y) _, rfl, fun i => by rw [responseOf_eq, responseOf_eq]; rfl⟩

end Sys2Proof.Machine
end

section
/-! The arithmetic of one lane (41_blend.md R100, R101): the accumulator and the shift on natural numbers, and the laws of the quotient that
the statements about the blends turn on. -/

namespace Sys2Proof.Machine

/-! ### The accumulator and the shift -/

/-- A weight is at most 131071 (30_encoding.md R63). -/
theorem weight_le (w : Weight) : w.toNat ≤ 131071 := Nat.le_of_lt_succ w.isLt

/-- A product of a multiplicand of at most `n` with a weight. -/
theorem mul_weight_le {x n : ℕ} (h : x ≤ n) (w : Weight) : x * w.toNat ≤ n * 131071 :=
  Nat.mul_le_mul h (weight_le w)

/-- An entry has 9 bits. -/
theorem entry_le (x : Entry) : x.toNat ≤ 511 := Nat.le_of_lt_succ x.isLt

/-- A channel as a 9-bit multiplicand keeps its value (30_encoding.md R63). -/
theorem channel_setWidth_toNat (a : Channel) : (a.setWidth 9).toNat = a.toNat :=
  BitVec.toNat_setWidth_of_le (by decide)

/-- A channel has 8 bits. -/
theorem channel_le (a : Channel) : a.toNat ≤ 255 := Nat.le_of_lt_succ a.isLt

/-- The 27-bit accumulator never wraps (41_blend.md R100). -/
theorem accumulate_toNat (x1 x2 : Entry) (w1 w2 : Weight) :
    (accumulate x1 x2 w1 w2).toNat = x1.toNat * w1.toNat + x2.toNat * w2.toNat := by
  have h1 := mul_weight_le (entry_le x1) w1
  have h2 := mul_weight_le (entry_le x2) w2
  rw [accumulate, BitVec.toNat_add, BitVec.toNat_mul, BitVec.toNat_mul, BitVec.toNat_setWidth_of_le (by decide),
    BitVec.toNat_setWidth_of_le (by decide), BitVec.toNat_setWidth_of_le (by decide), BitVec.toNat_setWidth_of_le (by decide),
    Nat.mod_eq_of_lt (by omega : x1.toNat * w1.toNat < 2 ^ 27), Nat.mod_eq_of_lt (by omega : x2.toNat * w2.toNat < 2 ^ 27),
    Nat.mod_eq_of_lt (by omega)]

/-- The accumulator of multiplicands of at most `n` (41_blend.md R100). -/
theorem accumulate_le {x1 x2 : Entry} {n : ℕ} (h1 : x1.toNat ≤ n) (h2 : x2.toNat ≤ n) (w1 w2 : Weight) :
    (accumulate x1 x2 w1 w2).toNat ≤ n * 131071 + n * 131071 := by
  rw [accumulate_toNat]
  exact Nat.add_le_add (mul_weight_le h1 w1) (mul_weight_le h2 w2)

/-- Settles O11: the accumulator does not wrap, and each bound is that of its largest multiplicand. -/
theorem accumulatorIsExact : Obligations.AccumulatorIsExact := by
  refine ⟨fun x1 x2 w1 w2 => ⟨accumulate_toNat x1 x2 w1 w2, ?_, ?_⟩, fun a1 a2 w1 w2 => ?_, fun a1 a2 w1 w2 => ?_⟩
  · exact mul_weight_le (entry_le x1) w1
  · exact accumulate_le (entry_le x1) (entry_le x2) w1 w2
  · refine accumulate_le (n := 255) ?_ ?_ w1 w2
    · exact (channel_setWidth_toNat a1).trans_le (channel_le a1)
    · exact (channel_setWidth_toNat a2).trans_le (channel_le a2)
  · exact accumulate_le (readEntry_gammaRom_le a1) (readEntry_gammaRom_le a2) w1 w2

/-- The shift is the floor of a division (41_blend.md R101). -/
theorem normalise_toNat (acc : Acc) (s : Shift) : (normalise acc s).toNat = acc.toNat / 2 ^ s.toNat := by
  rw [normalise, BitVec.toNat_ushiftRight, Nat.shiftRight_eq_div_pow]

/-- The quotient of a lane on natural numbers (41_blend.md R93). -/
theorem rawQuotient_toNat (c1 c2 : Color) (w1 w2 : Weight) (sh : Shift) (k : Lane) :
    (rawQuotient c1 c2 w1 w2 sh k).toNat = rawQ c1 c2 w1 w2 sh k := by
  rw [rawQuotient, normalise_toNat, accumulate_toNat, channel_setWidth_toNat, channel_setWidth_toNat]
  rfl

/-- The quotient of a lane on natural numbers (41_blend.md R94). -/
theorem gammaQuotient_toNat (gt : Table) (c1 c2 : Color) (w1 w2 : Weight) (sh : Shift) (k : Lane) :
    (gammaQuotient gt c1 c2 w1 w2 sh k).toNat = gammaQ gt c1 c2 w1 w2 sh k := by
  rw [gammaQuotient, normalise_toNat, accumulate_toNat]
  rfl

/-! ### The quotient -/

/-- A normalised quotient is at most the larger multiplicand (41_blend.md R104). -/
theorem quotient_le_max {x1 x2 w1 w2 s : ℕ} (h : w1 + w2 ≤ 2 ^ s) : quotient x1 x2 w1 w2 s ≤ max x1 x2 := by
  refine Nat.div_le_of_le_mul ?_
  calc x1 * w1 + x2 * w2
      ≤ max x1 x2 * w1 + max x1 x2 * w2 :=
        Nat.add_le_add (Nat.mul_le_mul_right _ (le_max_left _ _)) (Nat.mul_le_mul_right _ (le_max_right _ _))
    _ = (w1 + w2) * max x1 x2 := by ring
    _ ≤ 2 ^ s * max x1 x2 := Nat.mul_le_mul_right _ h

/-- With weights that sum to `2^s` it is at least the smaller one (41_blend.md R104). -/
theorem min_le_quotient {x1 x2 w1 w2 s : ℕ} (h : w1 + w2 = 2 ^ s) : min x1 x2 ≤ quotient x1 x2 w1 w2 s := by
  refine (Nat.le_div_iff_mul_le (Nat.two_pow_pos s)).mpr ?_
  calc min x1 x2 * 2 ^ s
      = min x1 x2 * w1 + min x1 x2 * w2 := by rw [← h, Nat.mul_add]
    _ ≤ x1 * w1 + x2 * w2 :=
        Nat.add_le_add (Nat.mul_le_mul_right _ (min_le_left _ _)) (Nat.mul_le_mul_right _ (min_le_right _ _))

/-- Equal multiplicands with weights that sum to `2^s` come back (41_blend.md R105). -/
theorem quotient_self {w1 w2 s : ℕ} (h : w1 + w2 = 2 ^ s) (x : ℕ) : quotient x x w1 w2 s = x :=
  le_antisymm ((quotient_le_max h.le).trans_eq (max_self x)) ((min_self x).symm.trans_le (min_le_quotient h))

/-- Swapping the multiplicands together with the weights (41_blend.md R106). -/
theorem quotient_comm (x1 x2 w1 w2 s : ℕ) : quotient x1 x2 w1 w2 s = quotient x2 x1 w2 w1 s :=
  congrArg (· / 2 ^ s) (Nat.add_comm _ _)

/-- One weight of `2^s` and the other 0 (41_blend.md R102). -/
theorem quotient_single (x1 x2 s : ℕ) : quotient x1 x2 (2 ^ s) 0 s = x1 := by
  rw [quotient, Nat.mul_zero, Nat.add_zero, Nat.mul_div_cancel _ (Nat.two_pow_pos s)]

/-- A multiplicand 0 contributes nothing, whatever its weight (41_blend.md R102). -/
theorem quotient_zero_left (x2 w1 v w2 s : ℕ) : quotient 0 x2 w1 w2 s = quotient 0 x2 v w2 s := by
  simp [quotient]

/-- Zero weights give 0 (41_blend.md R102). -/
theorem quotient_zero_weights (x1 x2 s : ℕ) : quotient x1 x2 0 0 s = 0 := by
  simp [quotient]

/-- Zero multiplicands give 0 (41_blend.md R102). -/
theorem quotient_zero_zero (w1 w2 s : ℕ) : quotient 0 0 w1 w2 s = 0 := by
  simp [quotient]

/-- For multiplicands of 8 bits a shift by 26 already leaves nothing (41_blend.md R101). -/
theorem quotient_eq_zero {x1 x2 s : ℕ} (h1 : x1 ≤ 255) (h2 : x2 ≤ 255) (w1 w2 : Weight) (hs : 26 ≤ s) :
    quotient x1 x2 w1.toNat w2.toNat s = 0 := by
  refine Nat.div_eq_of_lt ?_
  calc x1 * w1.toNat + x2 * w2.toNat
      ≤ 255 * 131071 + 255 * 131071 := Nat.add_le_add (mul_weight_le h1 w1) (mul_weight_le h2 w2)
    _ < 2 ^ 26 := by decide
    _ ≤ 2 ^ s := Nat.pow_le_pow_right (by decide) hs

end Sys2Proof.Machine
end

section
/-! The statements about the operations (41_blend.md R92 to R98): what each completes with, its flags, and what it leaves unchanged. -/

namespace Sys2Proof.Machine

/-! ### The response of a blend -/

/-- A colour is given by its three channels (10_state.md R20). -/
theorem color_ext {c d : Color} (h : ∀ k, chan c k = chan d k) : c = d := by
  rw [← pack_chan c, ← pack_chan d, h, h, h]

/-- The blends' only lane-wise output (41_blend.md R103). -/
theorem chan_blendResponse (out : Acc → Channel) (u : Bool) (q : Lane → Acc) (k : Lane) :
    chan (blendResponse out u q).color k = out (q k) := by
  cases k
  · exact chan_pack_R ..
  · exact chan_pack_G ..
  · exact chan_pack_B ..

/-- The lanes' joint result (41_blend.md R95). -/
theorem ovf_blendResponse (out : Acc → Channel) (u : Bool) (q : Lane → Acc) :
    (blendResponse out u q).ovf = true ↔ ∃ k, 255 < (q k).toNat := by
  simp only [blendResponse, Bool.or_eq_true, exceeds_iff]
  constructor
  · rintro ((h | h) | h)
    exacts [⟨.R, h⟩, ⟨.G, h⟩, ⟨.B, h⟩]
  · rintro ⟨k, h⟩
    cases k
    exacts [.inl (.inl h), .inl (.inr h), .inr h]

/-- A blend's response is given by its lanes and `ovf`. -/
theorem blendResponse_eq {out : Acc → Channel} {u o : Bool} {q : Lane → Acc} {c : Color} (hc : ∀ k, out (q k) = chan c k)
    (ho : o = true ↔ ∃ k, 255 < (q k).toNat) : blendResponse out u q = ⟨false, u, o, c⟩ := by
  have hcolor : (blendResponse out u q).color = c := color_ext fun k => (chan_blendResponse out u q k).trans (hc k)
  have hovf : (blendResponse out u q).ovf = o := Bool.eq_iff_iff.mpr ((ovf_blendResponse out u q).trans ho.symm)
  rw [← hcolor, ← hovf]
  rfl

/-- Each channel of `MIXR` is `min(q, 255)` (41_blend.md R93). -/
theorem chan_rawResponse (c1 c2 : Color) (w1 w2 : Weight) (sh : Shift) (k : Lane) :
    (chan (rawResponse c1 c2 w1 w2 sh).color k).toNat = min (rawQ c1 c2 w1 w2 sh k) 255 := by
  rw [rawResponse, chan_blendResponse, saturate_toNat, rawQuotient_toNat]

theorem ovf_rawResponse (c1 c2 : Color) (w1 w2 : Weight) (sh : Shift) :
    (rawResponse c1 c2 w1 w2 sh).ovf = true ↔ ∃ k, 255 < rawQ c1 c2 w1 w2 sh k := by
  simp only [rawResponse, ovf_blendResponse, rawQuotient_toNat]

/-- The saturated index on natural numbers (41_blend.md R94). -/
theorem saturate_eq_clampIndex (q : Acc) : saturate q = clampIndex q.toNat := by
  apply BitVec.eq_of_toNat_eq
  rw [saturate_toNat, clampIndex, toNat_ofNat_of_lt (by omega)]

/-- The index of a lane in range is its quotient. -/
theorem clampIndex_of_le {q : ℕ} (h : q ≤ 255) : clampIndex q = BitVec.ofNat 8 q := by
  rw [clampIndex, min_eq_left h]

/-- The index of a lane at the top or above it. -/
theorem clampIndex_of_ge {q : ℕ} (h : 255 ≤ q) : clampIndex q = 255#8 := by
  rw [clampIndex, min_eq_right h]

/-- Each channel of `MIXG` is `min(IGT[min(q, 255)], 255)` (41_blend.md R94). -/
theorem chan_gammaResponse (gt igt : Table) (b : Bool) (c1 c2 : Color) (w1 w2 : Weight) (sh : Shift) (k : Lane) :
    (chan (gammaResponse gt igt b c1 c2 w1 w2 sh).color k).toNat =
      min (readEntry igt (clampIndex (gammaQ gt c1 c2 w1 w2 sh k))).toNat 255 := by
  rw [gammaResponse, chan_blendResponse, gammaChannel, saturate_toNat, saturate_eq_clampIndex, gammaQuotient_toNat]

theorem ovf_gammaResponse (gt igt : Table) (b : Bool) (c1 c2 : Color) (w1 w2 : Weight) (sh : Shift) :
    (gammaResponse gt igt b c1 c2 w1 w2 sh).ovf = true ↔ ∃ k, 255 < gammaQ gt c1 c2 w1 w2 sh k := by
  simp only [gammaResponse, ovf_blendResponse, gammaQuotient_toNat]

/-! ### The response of an operation in a state -/

theorem responseOf_mixr (c1 c2 : Color) (w1 w2 : Weight) (sh : Shift) (s : State) :
    responseOf (.mixr c1 c2 w1 w2 sh) s = some (rawResponse c1 c2 w1 w2 sh) :=
  responseOf_eq _ s

theorem responseOf_mixg (c1 c2 : Color) (w1 w2 : Weight) (sh : Shift) (s : State) :
    responseOf (.mixg c1 c2 w1 w2 sh) s = some (gammaResponse s.gt s.igt s.inited c1 c2 w1 w2 sh) :=
  responseOf_eq _ s

/-- Of the four operations only the reserved one sets `ill` (41_blend.md R98). -/
theorem Arch.answer_ill (a : Arch) (i : Instr) : (a.answer i).ill = true ↔ ∃ x, i = .rsvd x := by
  cases i with
  | rsvd x => exact iff_of_true rfl ⟨x, rfl⟩
  | _ => exact iff_of_false Bool.false_ne_true nofun

/-- Only `MIXG` with `inited` = 0 sets `uninit` (41_blend.md R96). -/
theorem Arch.answer_uninit (a : Arch) (i : Instr) :
    (a.answer i).uninit = true ↔ (∃ c1 c2 w1 w2 sh, i = .mixg c1 c2 w1 w2 sh) ∧ a.inited = false := by
  cases i with
  | mixg c1 c2 w1 w2 sh => simp [Arch.answer, gammaResponse, blendResponse, uninitFlag]
  | _ => exact iff_of_false Bool.false_ne_true nofun

/-- Settles O16: the effect of the reserved operation is its definition, and `Arch.answer_ill` is the converse. -/
theorem reservedCompletesWithIll : Obligations.ReservedCompletesWithIll := by
  refine ⟨fun x s => rfl, fun i s => ?_⟩
  rw [responseOf_eq, ← s.arch.answer_ill i]
  simp

/-- Settles O13, with the response of the definition: its channels and `ovf` are those of the quotients on natural numbers. -/
theorem mixrCompletesWithRawBlend : Obligations.MixrCompletesWithRawBlend :=
  fun c1 c2 w1 w2 sh => ⟨rawResponse c1 c2 w1 w2 sh, fun _ => rfl, chan_rawResponse c1 c2 w1 w2 sh, ovf_rawResponse c1 c2 w1 w2 sh, rfl, rfl⟩

/-- Settles O14, with the response of the definition on the tables of the state. -/
theorem mixgCompletesWithGammaBlend : Obligations.MixgCompletesWithGammaBlend :=
  fun c1 c2 w1 w2 sh s => ⟨gammaResponse s.gt s.igt s.inited c1 c2 w1 w2 sh, rfl, chan_gammaResponse s.gt s.igt s.inited c1 c2 w1 w2 sh,
    ovf_gammaResponse s.gt s.igt s.inited c1 c2 w1 w2 sh, rfl, rfl⟩

/-- In the configurations `inited` decides the whole architectural state (10_state.md R32). -/
theorem arch_of_configured {s : State} (h : s.configured = true) : s.arch = bif s.inited then Arch.loaded else Arch.clear := by
  obtain ha | ha := configured_iff.mp h
  · rw [(Arch.mk.inj ha).2.2, ha, cond_false]
  · rw [(Arch.mk.inj ha).2.2, ha, cond_true]

/-- Settles O17: without `INIT` the architectural state stays, and the response is a function of it. -/
theorem blendsWriteNoState : Obligations.BlendsWriteNoState := by
  refine ⟨fun i s hi => ⟨_, exec_eq i s, ?_⟩, fun i s u _ hs hu h => ?_⟩
  · rw [s.arch.after_of_ne_init hi]
    exact ⟨fun _ => ⟨rfl, rfl⟩, rfl⟩
  · rw [responseOf_eq, responseOf_eq, arch_of_configured hs, arch_of_configured hu, h]

/-- Settles O20: `uninit` by the four operations; the colour and `ovf` of `MIXG` do not read `inited`. -/
theorem uninitReportsMixgBeforeInit : Obligations.UninitReportsMixgBeforeInit :=
  ⟨fun i s => ⟨_, responseOf_eq i s, s.arch.answer_uninit i⟩,
    fun c1 c2 w1 w2 sh s _ => ⟨_, _, responseOf_mixg c1 c2 w1 w2 sh s, responseOf_mixg c1 c2 w1 w2 sh _, rfl, rfl⟩⟩

/-- Settles O22: on zero tables every lane of `MIXG` is 0; `MIXR` reads no state. -/
theorem mixgBeforeInitIsBlackAndFlagged : Obligations.MixgBeforeInitIsBlackAndFlagged := by
  refine ⟨fun c1 c2 w1 w2 sh s h => ?_, fun c1 c2 w1 w2 sh s u => ?_⟩
  · have hblack : s.arch.answer (.mixg c1 c2 w1 w2 sh) = ⟨false, true, false, 0#24⟩ := by
      rw [cleared_iff.mp h]
      exact gammaResponse_cleared c1 c2 w1 w2 sh
    rw [exec_eq, hblack]
    rfl
  · rw [responseOf_mixr, responseOf_mixr]

/-! ### Saturation -/

/-- The tables of the loaded configuration (10_state.md R32). -/
theorem loaded_tables {s : State} (h : s.loaded = true) : s.gt = gammaRom ∧ s.igt = igammaRom ∧ s.inited = true :=
  Arch.mk.inj (loaded_iff.mp h)

/-- The tables of the cleared configuration (10_state.md R32). -/
theorem cleared_tables {s : State} (h : s.cleared = true) : s.gt = zeroTable ∧ s.igt = zeroTable ∧ s.inited = false :=
  Arch.mk.inj (cleared_iff.mp h)

/-- No lane has a quotient above 0 before `INIT` (41_blend.md R108). -/
theorem gammaQ_zeroTable (c1 c2 : Color) (w1 w2 : Weight) (sh : Shift) (k : Lane) : gammaQ zeroTable c1 c2 w1 w2 sh k = 0 := by
  rw [← gammaQuotient_toNat, gammaQuotient_zeroTable]
  rfl

/-- A lane of `MIXR` above 255 is delivered as 255 (41_blend.md R95). -/
theorem chan_rawResponse_of_lt {c1 c2 : Color} {w1 w2 : Weight} {sh : Shift} {k : Lane} (h : 255 < rawQ c1 c2 w1 w2 sh k) :
    chan (rawResponse c1 c2 w1 w2 sh).color k = 255#8 :=
  BitVec.eq_of_toNat_eq ((chan_rawResponse ..).trans (min_eq_right h.le))

/-- A lane of `MIXR` in range is delivered as it is (41_blend.md R95). -/
theorem chan_rawResponse_of_le {c1 c2 : Color} {w1 w2 : Weight} {sh : Shift} {k : Lane} (h : rawQ c1 c2 w1 w2 sh k ≤ 255) :
    (chan (rawResponse c1 c2 w1 w2 sh).color k).toNat = rawQ c1 c2 w1 w2 sh k :=
  (chan_rawResponse ..).trans (min_eq_left h)

/-- A lane of `MIXG` in range reads `IGT` at its quotient (41_blend.md R95). -/
theorem chan_gammaResponse_of_le {gt igt : Table} {b : Bool} {c1 c2 : Color} {w1 w2 : Weight} {sh : Shift} {k : Lane}
    (h : gammaQ gt c1 c2 w1 w2 sh k ≤ 255) :
    (chan (gammaResponse gt igt b c1 c2 w1 w2 sh).color k).toNat =
      min (readEntry igt (BitVec.ofNat 8 (gammaQ gt c1 c2 w1 w2 sh k))).toNat 255 := by
  rw [chan_gammaResponse, clampIndex_of_le h]

/-- A lane of `MIXG` at 255 or above is delivered as 255 when the tables are loaded (41_blend.md R95, R99). -/
theorem chan_gammaResponse_of_ge {gt : Table} {b : Bool} {c1 c2 : Color} {w1 w2 : Weight} {sh : Shift} {k : Lane}
    (h : 255 ≤ gammaQ gt c1 c2 w1 w2 sh k) : chan (gammaResponse gt igammaRom b c1 c2 w1 w2 sh).color k = 255#8 := by
  apply BitVec.eq_of_toNat_eq
  rw [chan_gammaResponse, clampIndex_of_ge h]
  rfl

/-- Settles O19, by the two sides of 255 in each blend; before `INIT` no lane is above 0. -/
theorem ovfMarksSaturatedLanes : Obligations.OvfMarksSaturatedLanes := by
  refine ⟨fun c1 c2 w1 w2 sh s => ⟨_, responseOf_mixr c1 c2 w1 w2 sh s, ovf_rawResponse c1 c2 w1 w2 sh,
    fun _ => chan_rawResponse_of_lt, fun _ => chan_rawResponse_of_le⟩,
    fun c1 c2 w1 w2 sh s => ⟨_, responseOf_mixg c1 c2 w1 w2 sh s, ovf_gammaResponse _ _ _ c1 c2 w1 w2 sh, fun hs k hk => ?_,
      fun _ => chan_gammaResponse_of_le, fun hs => ?_⟩⟩
  · obtain hc | hl := Bool.or_eq_true_iff.mp hs
    · obtain ⟨hgt, -, -⟩ := cleared_tables hc
      simp [hgt, gammaQ_zeroTable] at hk
    · obtain ⟨-, higt, -⟩ := loaded_tables hl
      rw [higt]
      exact chan_gammaResponse_of_ge hk.le
  · obtain ⟨hgt, -, -⟩ := cleared_tables hs
    simp [Bool.eq_false_iff, ovf_gammaResponse, hgt, gammaQ_zeroTable]

end Sys2Proof.Machine
end

section
/-! The laws of the blends (41_blend.md R99, R102 to R107): responses that are whole colours, normalised requests, symmetry and lanes. -/

namespace Sys2Proof.Machine

/-! ### Responses that are whole colours -/

/-- A `MIXR` whose clamped quotients are the channels of `c`. -/
theorem rawResponse_eq {c1 c2 c : Color} {w1 w2 : Weight} {sh : Shift} {o : Bool}
    (hc : ∀ k, min (rawQ c1 c2 w1 w2 sh k) 255 = (chan c k).toNat) (ho : o = true ↔ ∃ k, 255 < rawQ c1 c2 w1 w2 sh k) :
    rawResponse c1 c2 w1 w2 sh = ⟨false, false, o, c⟩ := by
  refine blendResponse_eq (fun k => BitVec.eq_of_toNat_eq ?_) ?_
  · rw [saturate_toNat, rawQuotient_toNat, hc]
  · simpa only [rawQuotient_toNat] using ho

/-- A `MIXR` whose quotients are the channels of `c` answers `c` without a flag. -/
theorem rawResponse_of_rawQ {c1 c2 c : Color} {w1 w2 : Weight} {sh : Shift} (h : ∀ k, rawQ c1 c2 w1 w2 sh k = (chan c k).toNat) :
    rawResponse c1 c2 w1 w2 sh = ⟨false, false, false, c⟩ := by
  have hle : ∀ k, rawQ c1 c2 w1 w2 sh k ≤ 255 := fun k => (h k).trans_le (channel_le _)
  refine rawResponse_eq (fun k => (min_eq_left (hle k)).trans (h k)) (iff_of_false Bool.false_ne_true ?_)
  exact fun ⟨k, hk⟩ => absurd (hle k) hk.not_ge

/-- A quotient that is an entry of `GAMMA_ROM` is delivered as the round trip of its index (41_blend.md R105). -/
theorem gammaChannel_of_gammaRom {q : Acc} {v : Channel} (h : q.toNat = (readEntry gammaRom v).toNat) :
    gammaChannel igammaRom q = roundTrip v := by
  have hindex : saturate q = (readEntry gammaRom v).setWidth 8 := by
    apply BitVec.eq_of_toNat_eq
    have hle := readEntry_gammaRom_le v
    rw [saturate_toNat, gammaRom_setWidth_toNat, h]
    omega
  rw [gammaChannel, hindex, roundTrip]

theorem chan_roundTripColor (c : Color) (k : Lane) : chan (roundTripColor c) k = roundTrip (chan c k) := by
  cases k
  · exact chan_pack_R ..
  · exact chan_pack_G ..
  · exact chan_pack_B ..

/-- A `MIXG` whose quotients are the gamma entries of the channels of `c` answers the round-trip image of `c` (41_blend.md R105). -/
theorem gammaResponse_of_gammaQ {c1 c2 c : Color} {w1 w2 : Weight} {sh : Shift} (b : Bool)
    (h : ∀ k, gammaQ gammaRom c1 c2 w1 w2 sh k = (readEntry gammaRom (chan c k)).toNat) :
    gammaResponse gammaRom igammaRom b c1 c2 w1 w2 sh = ⟨false, !b, false, roundTripColor c⟩ := by
  refine blendResponse_eq (fun k => ?_) (iff_of_false Bool.false_ne_true fun ⟨k, hk⟩ => ?_)
  · rw [chan_roundTripColor, gammaChannel_of_gammaRom ((gammaQuotient_toNat ..).trans (h k))]
  · rw [gammaQuotient_toNat, h] at hk
    exact absurd hk (readEntry_gammaRom_le _ |>.trans (by decide)).not_gt

theorem responseOf_mixg_loaded {s : State} (h : s.loaded = true) (c1 c2 : Color) (w1 w2 : Weight) (sh : Shift) :
    responseOf (.mixg c1 c2 w1 w2 sh) s = some (gammaResponse gammaRom igammaRom true c1 c2 w1 w2 sh) := by
  obtain ⟨hgt, higt, hin⟩ := loaded_tables h
  rw [responseOf_mixg, hgt, higt, hin]

theorem chan_zero (k : Lane) : chan 0#24 k = 0#8 := by
  cases k <;> rfl

theorem chan_white (k : Lane) : chan 0xFFFFFF k = 255#8 := by
  cases k <;> rfl

/-- A `MIXR` whose quotients are all 0 answers black without a flag. -/
theorem responseOf_mixr_black {c1 c2 : Color} {w1 w2 : Weight} {sh : Shift} (s : State) (h : ∀ k, rawQ c1 c2 w1 w2 sh k = 0) :
    responseOf (.mixr c1 c2 w1 w2 sh) s = some ⟨false, false, false, 0#24⟩ := by
  rw [responseOf_mixr, rawResponse_of_rawQ fun k => (h k).trans (by rw [chan_zero]; rfl)]

/-- A `MIXG` whose quotients are all 0 once the tables are loaded answers black in both configurations. -/
theorem responseOf_mixg_black {c1 c2 : Color} {w1 w2 : Weight} {sh : Shift} {s : State} (hs : s.configured = true)
    (h : ∀ k, gammaQ gammaRom c1 c2 w1 w2 sh k = 0) :
    responseOf (.mixg c1 c2 w1 w2 sh) s = some ⟨false, !s.inited, false, 0#24⟩ := by
  obtain hc | hl := Bool.or_eq_true_iff.mp hs
  · obtain ⟨hgt, higt, hin⟩ := cleared_tables hc
    rw [responseOf_mixg, hgt, higt, hin, gammaResponse_cleared, Bool.not_false]
  · rw [responseOf_mixg_loaded hl, gammaResponse_of_gammaQ (c := 0#24) true fun k => (h k).trans (by rw [chan_zero]; rfl),
      (loaded_tables hl).2.2]
    rfl

/-- Settles O12: the shift on natural numbers; multiplicands of 8 bits leave nothing after a shift by 26. -/
theorem shiftIsFloorDivision : Obligations.ShiftIsFloorDivision := by
  refine ⟨normalise_toNat, BitVec.ushiftRight_zero, fun acc s h => BitVec.ushiftRight_eq_zero h, fun c1 c2 w1 w2 sh s h => ⟨?_, fun hs => ?_⟩⟩
  · exact responseOf_mixr_black s fun k => quotient_eq_zero (channel_le _) (channel_le _) w1 w2 h
  · have hle (a : Channel) : (readEntry gammaRom a).toNat ≤ 255 := (readEntry_gammaRom_le a).trans (by decide)
    exact responseOf_mixg_black hs fun k => quotient_eq_zero (hle _) (hle _) w1 w2 h

/-! ### Normalised requests -/

theorem normalised_iff {w1 w2 : Weight} {sh : Shift} : normalised w1 w2 sh = true ↔ w1.toNat + w2.toNat ≤ 2 ^ sh.toNat :=
  decide_eq_true_iff

/-- A normalised `MIXR` has no lane above 255 (41_blend.md R104). -/
theorem rawQ_le_of_normalised {w1 w2 : Weight} {sh : Shift} (h : normalised w1 w2 sh = true) (c1 c2 : Color) (k : Lane) :
    rawQ c1 c2 w1 w2 sh k ≤ 255 :=
  (quotient_le_max (normalised_iff.mp h)).trans (max_le (channel_le _) (channel_le _))

/-- A normalised `MIXG` of the loaded tables has no lane at 255 or above (41_blend.md R104). -/
theorem gammaQ_le_of_normalised {w1 w2 : Weight} {sh : Shift} (h : normalised w1 w2 sh = true) (c1 c2 : Color) (k : Lane) :
    gammaQ gammaRom c1 c2 w1 w2 sh k ≤ 254 :=
  (quotient_le_max (normalised_iff.mp h)).trans (max_le (readEntry_gammaRom_le _) (readEntry_gammaRom_le _))

theorem ovf_rawResponse_eq_false {c1 c2 : Color} {w1 w2 : Weight} {sh : Shift} :
    (rawResponse c1 c2 w1 w2 sh).ovf = false ↔ ∀ k, rawQ c1 c2 w1 w2 sh k ≤ 255 := by
  simp [← Bool.not_eq_true, ovf_rawResponse]

theorem ovf_gammaResponse_eq_false {gt igt : Table} {b : Bool} {c1 c2 : Color} {w1 w2 : Weight} {sh : Shift} :
    (gammaResponse gt igt b c1 c2 w1 w2 sh).ovf = false ↔ ∀ k, gammaQ gt c1 c2 w1 w2 sh k ≤ 255 := by
  simp [← Bool.not_eq_true, ovf_gammaResponse]

/-- A lane of `MIXR` above 255 needs an un-normalised request (41_blend.md R99). -/
theorem not_normalised_of_rawQ {c1 c2 : Color} {w1 w2 : Weight} {sh : Shift} {k : Lane} (h : 255 < rawQ c1 c2 w1 w2 sh k) :
    normalised w1 w2 sh = false :=
  Bool.eq_false_iff.mpr fun hn => absurd (rawQ_le_of_normalised hn c1 c2 k) h.not_ge

/-- A lane of the loaded `MIXG` at 255 or above needs an un-normalised request (41_blend.md R99). -/
theorem not_normalised_of_gammaQ {c1 c2 : Color} {w1 w2 : Weight} {sh : Shift} {k : Lane} (h : 255 ≤ gammaQ gammaRom c1 c2 w1 w2 sh k) :
    normalised w1 w2 sh = false :=
  Bool.eq_false_iff.mpr fun hn => absurd ((gammaQ_le_of_normalised hn c1 c2 k).trans_lt (by decide)) h.not_gt

/-- Below 255 no narrowing of the loaded `MIXG` binds (41_blend.md R99). -/
theorem chan_gammaResponse_unclamped {b : Bool} {c1 c2 : Color} {w1 w2 : Weight} {sh : Shift} {k : Lane}
    (h : gammaQ gammaRom c1 c2 w1 w2 sh k ≤ 254) :
    (chan (gammaResponse gammaRom igammaRom b c1 c2 w1 w2 sh).color k).toNat =
      (readEntry igammaRom (BitVec.ofNat 8 (gammaQ gammaRom c1 c2 w1 w2 sh k))).toNat := by
  have hindex : (BitVec.ofNat 8 (gammaQ gammaRom c1 c2 w1 w2 sh k)).toNat ≤ 254 := by rwa [toNat_ofNat_of_lt (by omega)]
  rw [chan_gammaResponse_of_le (h.trans (by decide)), min_eq_left (readEntry_igammaRom_le hindex)]

/-- The round trip on natural numbers: its clamp never acts (40_init.md R86 item 6). -/
theorem roundTrip_toNat (v : Channel) : (roundTrip v).toNat = (readEntry igammaRom ((readEntry gammaRom v).setWidth 8)).toNat := by
  rw [roundTrip, saturate_toNat, min_eq_left (roundTrip_unclamped v)]

/-- An index at least the gamma entry of `v` reads at least the round trip of `v`. -/
theorem roundTrip_le {v : Channel} {i : Index} (h : (readEntry gammaRom v).toNat ≤ i.toNat) :
    (roundTrip v).toNat ≤ (readEntry igammaRom i).toNat := by
  rw [roundTrip_toNat]
  exact readEntry_igammaRom_mono ((gammaRom_setWidth_toNat v).trans_le h)

/-- An index at most the gamma entry of `v` reads at most the round trip of `v`. -/
theorem le_roundTrip {v : Channel} {i : Index} (h : i.toNat ≤ (readEntry gammaRom v).toNat) :
    (readEntry igammaRom i).toNat ≤ (roundTrip v).toNat := by
  rw [roundTrip_toNat]
  exact readEntry_igammaRom_mono (h.trans_eq (gammaRom_setWidth_toNat v).symm)

/-- `IGT` between two gamma entries is between their round trips (41_blend.md R104). -/
theorem readEntry_igammaRom_between {a1 a2 : Channel} {i : Index}
    (hmin : min (readEntry gammaRom a1).toNat (readEntry gammaRom a2).toNat ≤ i.toNat)
    (hmax : i.toNat ≤ max (readEntry gammaRom a1).toNat (readEntry gammaRom a2).toNat) :
    min (roundTrip a1).toNat (roundTrip a2).toNat ≤ (readEntry igammaRom i).toNat ∧
      (readEntry igammaRom i).toNat ≤ max (roundTrip a1).toNat (roundTrip a2).toNat := by
  rw [min_le_iff] at hmin ⊢
  rw [le_max_iff] at hmax ⊢
  exact ⟨hmin.imp roundTrip_le roundTrip_le, hmax.imp le_roundTrip le_roundTrip⟩

/-- The un-normalised request of R104 that answers without a flag: every lane is exactly 255. -/
theorem responseOf_mixr_unnormalised (s : State) :
    responseOf (.mixr 0xFF00FF 0x00FF00 256 256 8) s = some ⟨false, false, false, 0xFFFFFF⟩ := by
  rw [responseOf_mixr, rawResponse_of_rawQ (c := 0xFFFFFF) (by rintro (_ | _ | _) <;> rfl)]

/-- Settles O24: the bounds of the quotient, carried through the narrowings, which do not bind. -/
theorem normalisedRequestsStayInRange : Obligations.NormalisedRequestsStayInRange := by
  refine ⟨fun _ _ _ _ _ => quotient_le_max, fun _ _ _ _ _ => min_le_quotient, fun c1 c2 w1 w2 sh s hn => ?_,
    fun c1 c2 w1 w2 sh s hn hl => ?_, fun s => ⟨rfl, responseOf_mixr_unnormalised s⟩⟩
  · have hle := rawQ_le_of_normalised hn c1 c2
    refine ⟨_, responseOf_mixr c1 c2 w1 w2 sh s, ovf_rawResponse_eq_false.mpr hle, fun k => chan_rawResponse_of_le (hle k), fun hsum k => ?_⟩
    rw [chan_rawResponse_of_le (hle k)]
    exact ⟨min_le_quotient hsum, quotient_le_max hsum.le⟩
  · have hle := gammaQ_le_of_normalised hn c1 c2
    rw [(loaded_tables hl).1]
    refine ⟨_, responseOf_mixg_loaded hl c1 c2 w1 w2 sh, ovf_gammaResponse_eq_false.mpr fun k => (hle k).trans (by decide),
      fun k => ⟨hle k, chan_gammaResponse_unclamped (hle k)⟩, fun hsum k => ?_⟩
    have hindex : (BitVec.ofNat 8 (gammaQ gammaRom c1 c2 w1 w2 sh k)).toNat = gammaQ gammaRom c1 c2 w1 w2 sh k :=
      toNat_ofNat_of_lt ((hle k).trans_lt (by decide))
    rw [chan_gammaResponse_unclamped (hle k)]
    refine readEntry_igammaRom_between ?_ ?_
    · exact (min_le_quotient hsum).trans_eq hindex.symm
    · exact hindex.trans_le (quotient_le_max hsum.le)

/-- Settles O30: in range no narrowing binds, at 255 the loaded table delivers 255, and a normalised request meets neither. -/
theorem unflaggedColorIsTheUnclampedOne : Obligations.UnflaggedColorIsTheUnclampedOne := by
  refine ⟨fun c1 c2 w1 w2 sh s => ⟨_, responseOf_mixr c1 c2 w1 w2 sh s, fun ho k => ?_, fun ho => ?_⟩, fun c1 c2 w1 w2 sh s hl => ?_⟩
  · exact chan_rawResponse_of_le (ovf_rawResponse_eq_false.mp ho k)
  · obtain ⟨k, hk⟩ := (ovf_rawResponse ..).mp ho
    exact not_normalised_of_rawQ hk
  · obtain ⟨hgt, higt, -⟩ := loaded_tables hl
    rw [hgt, higt]
    refine ⟨_, responseOf_mixg_loaded hl c1 c2 w1 w2 sh, fun ho k hk => ?_,
      fun k hk => ⟨rfl, chan_gammaResponse_of_ge hk.ge, not_normalised_of_gammaQ hk.ge⟩, fun ho => ?_⟩
    · have hle : gammaQ gammaRom c1 c2 w1 w2 sh k ≤ 254 := by
        have hovf := ovf_gammaResponse_eq_false.mp ho k
        omega
      exact ⟨hle, chan_gammaResponse_unclamped hle⟩
    · obtain ⟨k, hk⟩ := (ovf_gammaResponse ..).mp ho
      exact not_normalised_of_gammaQ hk.le

/-! ### Symmetry and lanes -/

/-- Swapping the colours together with the weights in `MIXR` (41_blend.md R106). -/
theorem rawResponse_comm (c1 c2 : Color) (w1 w2 : Weight) (sh : Shift) : rawResponse c1 c2 w1 w2 sh = rawResponse c2 c1 w2 w1 sh := by
  refine congrArg (blendResponse saturate false) (funext fun k => BitVec.eq_of_toNat_eq ?_)
  rw [rawQuotient_toNat, rawQuotient_toNat]
  exact quotient_comm ..

/-- Swapping the colours together with the weights in `MIXG` (41_blend.md R106). -/
theorem gammaResponse_comm (gt igt : Table) (b : Bool) (c1 c2 : Color) (w1 w2 : Weight) (sh : Shift) :
    gammaResponse gt igt b c1 c2 w1 w2 sh = gammaResponse gt igt b c2 c1 w2 w1 sh := by
  refine congrArg (blendResponse (gammaChannel igt) (uninitFlag b)) (funext fun k => BitVec.eq_of_toNat_eq ?_)
  rw [gammaQuotient_toNat, gammaQuotient_toNat]
  exact quotient_comm ..

/-- Settles O26: the sum of the accumulator is commutative. -/
theorem swappedOperandsGiveTheSameResponse : Obligations.SwappedOperandsGiveTheSameResponse :=
  fun c1 c2 w1 w2 sh s => ⟨⟨_, responseOf_mixr c1 c2 w1 w2 sh s, by rw [responseOf_mixr, rawResponse_comm]⟩,
    ⟨_, responseOf_mixg c1 c2 w1 w2 sh s, by rw [responseOf_mixg, gammaResponse_comm]⟩⟩

/-- A channel of `MIXR` is a function of its quotient (41_blend.md R103). -/
theorem chan_rawResponse_congr {c1 c2 d1 d2 : Color} {w1 w2 v1 v2 : Weight} {sh : Shift} {k : Lane}
    (h : rawQ c1 c2 w1 w2 sh k = rawQ d1 d2 v1 v2 sh k) :
    chan (rawResponse c1 c2 w1 w2 sh).color k = chan (rawResponse d1 d2 v1 v2 sh).color k := by
  apply BitVec.eq_of_toNat_eq
  rw [chan_rawResponse, chan_rawResponse, h]

/-- A channel of `MIXG` is a function of its quotient and of `IGT` (41_blend.md R103). -/
theorem chan_gammaResponse_congr {gt igt : Table} {b : Bool} {c1 c2 d1 d2 : Color} {w1 w2 v1 v2 : Weight} {sh : Shift} {k : Lane}
    (h : gammaQ gt c1 c2 w1 w2 sh k = gammaQ gt d1 d2 v1 v2 sh k) :
    chan (gammaResponse gt igt b c1 c2 w1 w2 sh).color k = chan (gammaResponse gt igt b d1 d2 v1 v2 sh).color k := by
  apply BitVec.eq_of_toNat_eq
  rw [chan_gammaResponse, chan_gammaResponse, h]

/-- Settles O27: a channel is a function of its quotient, which reads that lane of the colours alone. -/
theorem lanesDoNotInteract : Obligations.LanesDoNotInteract :=
  fun c1 c2 d1 d2 w1 w2 sh s k h1 h2 =>
    ⟨⟨_, _, responseOf_mixr c1 c2 w1 w2 sh s, responseOf_mixr d1 d2 w1 w2 sh s, chan_rawResponse_congr (by rw [rawQ, rawQ, h1, h2])⟩,
      ⟨_, _, responseOf_mixg c1 c2 w1 w2 sh s, responseOf_mixg d1 d2 w1 w2 sh s,
        chan_gammaResponse_congr (by rw [gammaQ, gammaQ, h1, h2])⟩⟩

/-! ### Equal colours -/

/-- `RT` is 0 where `GAMMA_ROM` is (40_init.md R86 item 6). -/
theorem roundTrip_eq_zero {v : Channel} (h : v.toNat ≤ 15) : roundTrip v = 0#8 := by
  rw [roundTrip, (readEntry_gammaRom_eq_zero_iff v).mpr h]
  rfl

/-- The colours that the round trip leaves alone (41_blend.md R105). -/
theorem roundTripColor_eq_self_iff (c : Color) : roundTripColor c = c ↔ ∀ k, roundTrip (chan c k) = chan c k := by
  refine ⟨fun h k => ?_, fun h => color_ext fun k => (chan_roundTripColor c k).trans (h k)⟩
  rw [← chan_roundTripColor, h]

/-- The channels below 120 that the round trip leaves alone (41_blend.md R105). -/
def lowFixedPoints : List ℕ :=
  [0, 21, 28, 34, 39, 43, 46, 50, 53, 56, 59, 61, 64, 66, 68, 70, 73, 75, 77, 78, 80, 82, 84, 86, 87, 89, 91, 92, 94, 95,
    97, 98, 99, 101, 102, 104, 105, 106, 108, 109, 110, 111, 113, 114, 115, 116, 117, 118]

/-- The fixed points of the round trip (41_blend.md R105). -/
theorem roundTrip_eq_self_iff (v : Channel) : roundTrip v = v ↔ 120 ≤ v.toNat ∨ v.toNat ∈ lowFixedPoints := by
  by_cases h : 120 ≤ v.toNat
  · exact iff_of_true (roundTrip_eq_self h) (.inl h)
  · have hlow : ∀ n < 120, roundTrip (BitVec.ofNat 8 n) = BitVec.ofNat 8 n ↔ n ∈ lowFixedPoints := by decide +kernel
    rw [or_iff_right h, ← hlow v.toNat (Nat.lt_of_not_le h), BitVec.ofNat_toNat, BitVec.setWidth_eq]

/-- Equal colours with weights that sum to `2^s` in `MIXR` (41_blend.md R105). -/
theorem rawResponse_self {w1 w2 : Weight} {sh : Shift} (h : w1.toNat + w2.toNat = 2 ^ sh.toNat) (c : Color) :
    rawResponse c c w1 w2 sh = ⟨false, false, false, c⟩ :=
  rawResponse_of_rawQ fun _ => quotient_self h _

/-- Equal colours with weights that sum to `2^s` in the loaded `MIXG` (41_blend.md R105). -/
theorem gammaResponse_self {w1 w2 : Weight} {sh : Shift} (h : w1.toNat + w2.toNat = 2 ^ sh.toNat) (c : Color) :
    gammaResponse gammaRom igammaRom true c c w1 w2 sh = ⟨false, false, false, roundTripColor c⟩ :=
  gammaResponse_of_gammaQ true fun _ => quotient_self h _

/-- Settles O25: with weights that sum to `2^s` the quotient of a multiplicand with itself is that multiplicand. -/
theorem equalColorsBlendToRoundTrip : Obligations.EqualColorsBlendToRoundTrip := by
  refine ⟨fun c w1 w2 sh s h => ⟨?_, fun hl => ?_⟩, roundTripColor_eq_self_iff, roundTrip_eq_self_iff,
    fun _ _ => roundTrip_eq_zero, fun s hl => ?_⟩
  · rw [responseOf_mixr, rawResponse_self h]
  · rw [responseOf_mixg_loaded hl, gammaResponse_self h]
  · rw [responseOf_mixg_loaded hl, gammaResponse_self (by decide)]
    rfl

/-! ### Zero and extreme operands -/

/-- One weight of `2^s` and the other 0 in `MIXR` (41_blend.md R102). -/
theorem rawResponse_single {w : Weight} {sh : Shift} (h : w.toNat = 2 ^ sh.toNat) (c1 c2 : Color) :
    rawResponse c1 c2 w 0 sh = ⟨false, false, false, c1⟩ := by
  refine rawResponse_of_rawQ fun k => ?_
  rw [rawQ, h]
  exact quotient_single ..

/-- One weight of `2^s` and the other 0 in the loaded `MIXG` (41_blend.md R102). -/
theorem gammaResponse_single {w : Weight} {sh : Shift} (h : w.toNat = 2 ^ sh.toNat) (c1 c2 : Color) :
    gammaResponse gammaRom igammaRom true c1 c2 w 0 sh = ⟨false, false, false, roundTripColor c1⟩ := by
  refine gammaResponse_of_gammaQ true fun k => ?_
  rw [gammaQ, h]
  exact quotient_single ..

/-- Settles O29: weight 1 is `2^0`, and the round trip keeps black and white. -/
theorem blackAndWhiteSurvive : Obligations.BlackAndWhiteSurvive := by
  refine fun s => ⟨?_, ?_, fun hl => ⟨?_, ?_⟩⟩
  · rw [responseOf_mixr, rawResponse_single rfl]
  · rw [responseOf_mixr, rawResponse_comm, rawResponse_single rfl]
  · rw [responseOf_mixg_loaded hl, gammaResponse_single rfl]
    rfl
  · rw [responseOf_mixg_loaded hl, gammaResponse_comm, gammaResponse_single rfl]
    rfl

/-- The lanes of white with white at the largest weights (41_blend.md R102). -/
theorem rawQ_white (sh : Shift) (k : Lane) : rawQ 0xFFFFFF 0xFFFFFF 131071 131071 sh k = 66846210 / 2 ^ sh.toNat := by
  rw [rawQ, chan_white]
  rfl

/-- Up to a shift of 17 every lane of the largest operands is saturated (41_blend.md R102). -/
theorem rawResponse_white_of_le {sh : Shift} (h : sh.toNat ≤ 17) :
    rawResponse 0xFFFFFF 0xFFFFFF 131071 131071 sh = ⟨false, false, true, 0xFFFFFF⟩ := by
  have hover (k : Lane) : 255 < rawQ 0xFFFFFF 0xFFFFFF 131071 131071 sh k := by
    rw [rawQ_white]
    calc 255
        < 66846210 / 2 ^ 17 := by decide
      _ ≤ 66846210 / 2 ^ sh.toNat := Nat.div_le_div_left (Nat.pow_le_pow_right (by decide) h) (Nat.two_pow_pos _)
  refine rawResponse_eq (fun k => ?_) (iff_of_true rfl ⟨.R, hover .R⟩)
  rw [min_eq_right (hover k).le, chan_white]
  rfl

/-- From a shift of 18 on no lane of the largest operands is (41_blend.md R102). -/
theorem rawQ_white_le {sh : Shift} (h : 18 ≤ sh.toNat) (k : Lane) : rawQ 0xFFFFFF 0xFFFFFF 131071 131071 sh k ≤ 255 := by
  rw [rawQ_white]
  calc 66846210 / 2 ^ sh.toNat
      ≤ 66846210 / 2 ^ 18 := Nat.div_le_div_left (Nat.pow_le_pow_right (by decide) h) (Nat.two_pow_pos _)
    _ ≤ 255 := by decide

/-- The largest operands at a shift of 18 (41_blend.md R102). -/
theorem rawResponse_white_18 {sh : Shift} (h : sh.toNat = 18) :
    rawResponse 0xFFFFFF 0xFFFFFF 131071 131071 sh = ⟨false, false, false, 0xFEFEFE⟩ := by
  refine rawResponse_of_rawQ fun k => ?_
  rw [rawQ_white, h]
  cases k <;> rfl

/-- A lane where the first colour is 0 does not read the first weight (41_blend.md R102). -/
theorem rawQ_zero_left {c1 : Color} {k : Lane} (h : chan c1 k = 0#8) (c2 : Color) (w1 v w2 : Weight) (sh : Shift) :
    rawQ c1 c2 w1 w2 sh k = rawQ c1 c2 v w2 sh k := by
  rw [rawQ, rawQ, h]
  exact quotient_zero_left ..

/-- A lane where the second colour is 0 does not read the second weight (41_blend.md R102). -/
theorem rawQ_zero_right {c2 : Color} {k : Lane} (h : chan c2 k = 0#8) (c1 : Color) (w1 w2 v : Weight) (sh : Shift) :
    rawQ c1 c2 w1 w2 sh k = rawQ c1 c2 w1 v sh k :=
  (quotient_comm ..).trans ((rawQ_zero_left h c1 w2 v w1 sh).trans (quotient_comm ..))

theorem rawQ_zero_zero {c1 c2 : Color} {k : Lane} (h1 : chan c1 k = 0#8) (h2 : chan c2 k = 0#8) (w1 w2 : Weight) (sh : Shift) :
    rawQ c1 c2 w1 w2 sh k = 0 := by
  rw [rawQ, h1, h2]
  exact quotient_zero_zero ..

/-- `rawQ_zero_left` for `MIXG`, since `GT[0]` is 0 once loaded (41_blend.md R102). -/
theorem gammaQ_zero_left {c1 : Color} {k : Lane} (h : chan c1 k = 0#8) (c2 : Color) (w1 v w2 : Weight) (sh : Shift) :
    gammaQ gammaRom c1 c2 w1 w2 sh k = gammaQ gammaRom c1 c2 v w2 sh k := by
  rw [gammaQ, gammaQ, h]
  exact quotient_zero_left ..

/-- `rawQ_zero_right` for `MIXG` (41_blend.md R102). -/
theorem gammaQ_zero_right {c2 : Color} {k : Lane} (h : chan c2 k = 0#8) (c1 : Color) (w1 w2 v : Weight) (sh : Shift) :
    gammaQ gammaRom c1 c2 w1 w2 sh k = gammaQ gammaRom c1 c2 w1 v sh k :=
  (quotient_comm ..).trans ((gammaQ_zero_left h c1 w2 v w1 sh).trans (quotient_comm ..))

theorem gammaQ_zero_zero {c1 c2 : Color} {k : Lane} (h1 : chan c1 k = 0#8) (h2 : chan c2 k = 0#8) (w1 w2 : Weight) (sh : Shift) :
    gammaQ gammaRom c1 c2 w1 w2 sh k = 0 := by
  rw [gammaQ, h1, h2]
  exact quotient_zero_zero ..

/-- A lane of `MIXR` with quotient 0 is delivered as 0. -/
theorem chan_rawResponse_zero {c1 c2 : Color} {w1 w2 : Weight} {sh : Shift} {k : Lane} (h : rawQ c1 c2 w1 w2 sh k = 0) :
    chan (rawResponse c1 c2 w1 w2 sh).color k = 0#8 := by
  apply BitVec.eq_of_toNat_eq
  rw [chan_rawResponse, h]
  rfl

/-- A lane of the loaded `MIXG` with quotient 0 is delivered as 0. -/
theorem chan_gammaResponse_zero {b : Bool} {c1 c2 : Color} {w1 w2 : Weight} {sh : Shift} {k : Lane}
    (h : gammaQ gammaRom c1 c2 w1 w2 sh k = 0) : chan (gammaResponse gammaRom igammaRom b c1 c2 w1 w2 sh).color k = 0#8 := by
  apply BitVec.eq_of_toNat_eq
  rw [chan_gammaResponse, h]
  rfl

/-- Settles O28, part by part: zero weights, a single weight, the largest operands, and the channels 0 of either blend. -/
theorem zeroAndExtremeOperands : Obligations.ZeroAndExtremeOperands := by
  refine ⟨fun c1 c2 sh s => ⟨?_, fun hs => ?_⟩, fun c1 c2 w sh s h => ⟨?_, ?_, fun hl => ⟨?_, ?_⟩⟩,
    fun sh s => ⟨_, responseOf_mixr _ _ _ _ sh s, rawResponse_white_of_le, rawResponse_white_18, fun h => ⟨rfl, rfl, ?_, fun k => ?_⟩,
      fun h => ?_⟩,
    fun c1 c2 w1 w2 v sh s k => ?_, fun c1 c2 w1 w2 v sh s k hl => ?_⟩
  · exact responseOf_mixr_black s fun k => quotient_zero_weights ..
  · exact responseOf_mixg_black hs fun k => quotient_zero_weights ..
  · rw [responseOf_mixr, rawResponse_single h]
  · rw [responseOf_mixr, rawResponse_comm, rawResponse_single h]
  · rw [responseOf_mixg_loaded hl, gammaResponse_single h]
  · rw [responseOf_mixg_loaded hl, gammaResponse_comm, gammaResponse_single h]
  · exact ovf_rawResponse_eq_false.mpr (rawQ_white_le h)
  · rw [chan_rawResponse_of_le (rawQ_white_le h k), rawQ_white]
  · exact Option.some.inj ((responseOf_mixr ..).symm.trans
      (responseOf_mixr_black s fun k => quotient_eq_zero (channel_le _) (channel_le _) _ _ h))
  · refine ⟨_, _, _, responseOf_mixr c1 c2 w1 w2 sh s, responseOf_mixr c1 c2 v w2 sh s, responseOf_mixr c1 c2 w1 v sh s, ?_, ?_, ?_⟩
    · exact fun h => chan_rawResponse_congr (rawQ_zero_left h c2 w1 v w2 sh)
    · exact fun h => chan_rawResponse_congr (rawQ_zero_right h c1 w1 w2 v sh)
    · exact fun h1 h2 => chan_rawResponse_zero (rawQ_zero_zero h1 h2 w1 w2 sh)
  · refine ⟨_, _, _, responseOf_mixg_loaded hl c1 c2 w1 w2 sh, responseOf_mixg_loaded hl c1 c2 v w2 sh,
      responseOf_mixg_loaded hl c1 c2 w1 v sh, ?_, ?_, ?_⟩
    · exact fun h => chan_gammaResponse_congr (gammaQ_zero_left h c2 w1 v w2 sh)
    · exact fun h => chan_gammaResponse_congr (gammaQ_zero_right h c1 w1 w2 v sh)
    · exact fun h1 h2 => chan_gammaResponse_zero (gammaQ_zero_zero h1 h2 w1 w2 sh)

end Sys2Proof.Machine
end

section
/-! The statements about the conditions an operation can meet (60_exceptions.md): every request is answered (R110), the flags of a response
(R114), and the colours a claim may use (R121). -/

namespace Sys2Proof.Machine

/-! ### The flags of a response -/

/-- No two flags of a lawful response are 1 (60_exceptions.md R114). -/
theorem flags_of_lawful {r : Response} (h : r.lawful = true) :
    (r.ill = true → r.ovf = false ∧ r.uninit = false) ∧ (r.uninit = true → r.ovf = false ∧ r.ill = false) ∧
      (r.ovf = true → r.uninit = false ∧ r.ill = false) := by
  obtain ⟨hflags, -⟩ := Bool.and_eq_true_iff.mp h
  revert hflags
  cases r.ill <;> cases r.uninit <;> cases r.ovf <;> decide

/-- The top three bits of a response word, as a number. -/
theorem extractFlags_toNat (w : RspWord) : (w.extractLsb' 24 3).toNat = w.toNat / 2 ^ 24 := by
  rw [BitVec.extractLsb'_toNat, Nat.shiftRight_eq_div_pow]
  omega

/-- A lawful word on natural numbers (60_exceptions.md R114). -/
theorem lawfulWord_iff {w : RspWord} :
    lawfulWord w = true ↔ w.toNat / 2 ^ 24 = 0 ∨ w.toNat / 2 ^ 24 = 1 ∨ w.toNat / 2 ^ 24 = 2 ∨ w.toNat / 2 ^ 24 = 4 := by
  simp only [lawfulWord, Bool.or_eq_true, beq_iff_eq, ← BitVec.toNat_inj, extractFlags_toNat, BitVec.toNat_ofNat, or_assoc, Nat.reducePow,
    Nat.reduceMod]

/-- Settles O21: every response of a configuration is lawful, and so is its word. -/
theorem atMostOneFlagInAResponse : Obligations.AtMostOneFlagInAResponse := by
  intro i s hs
  have hlawful : (s.arch.answer i).lawful = true := Arch.answer_lawful (configured_iff.mp hs) i
  obtain ⟨hill, huninit, hovf⟩ := flags_of_lawful hlawful
  exact ⟨_, responseOf_eq i s, hill, huninit, hovf, lawfulWord_iff.mp (lawfulWord_responseWord hlawful)⟩

/-! ### Meaningful colours -/

/-- A colour may be used when no flag is 1 and no lane of a `MIXG` is at 255 (60_exceptions.md R121; 93_implementation_defined.md U1 to U4). -/
theorem colourMeaningful_iff {i : Instr} {s : State} :
    colourMeaningful i s = true ↔ (s.arch.answer i).ill = false ∧ (s.arch.answer i).uninit = false ∧ (s.arch.answer i).ovf = false ∧
      atTop i s = false := by
  simp [colourMeaningful, responseOf_eq, and_assoc]

/-- No lane of a normalised `MIXG` of the loaded tables is at 255 (93_implementation_defined.md U3). -/
theorem atTop_mixg_of_normalised {s : State} {w1 w2 : Weight} {sh : Shift} (hl : s.loaded = true) (hn : normalised w1 w2 sh = true)
    (c1 c2 : Color) : atTop (.mixg c1 c2 w1 w2 sh) s = false := by
  have hne (k : Lane) : gammaQ s.gt c1 c2 w1 w2 sh k ≠ 255 := by
    rw [(loaded_tables hl).1]
    exact ((gammaQ_le_of_normalised hn c1 c2 k).trans_lt (by decide)).ne
  simp [atTop, hne]

theorem colourMeaningful_mixr_of_normalised {w1 w2 : Weight} {sh : Shift} (hn : normalised w1 w2 sh = true) (c1 c2 : Color) (s : State) :
    colourMeaningful (.mixr c1 c2 w1 w2 sh) s = true :=
  colourMeaningful_iff.mpr ⟨rfl, rfl, ovf_rawResponse_eq_false.mpr (rawQ_le_of_normalised hn c1 c2), rfl⟩

theorem colourMeaningful_mixg_of_normalised {s : State} {w1 w2 : Weight} {sh : Shift} (hl : s.loaded = true)
    (hn : normalised w1 w2 sh = true) (c1 c2 : Color) : colourMeaningful (.mixg c1 c2 w1 w2 sh) s = true := by
  have hanswer : s.arch.answer (.mixg c1 c2 w1 w2 sh) = gammaResponse gammaRom igammaRom true c1 c2 w1 w2 sh := by
    rw [loaded_iff.mp hl]
    rfl
  have hle (k : Lane) : gammaQ gammaRom c1 c2 w1 w2 sh k ≤ 255 := (gammaQ_le_of_normalised hn c1 c2 k).trans (by decide)
  rw [colourMeaningful_iff, hanswer]
  exact ⟨rfl, rfl, ovf_gammaResponse_eq_false.mpr hle, atTop_mixg_of_normalised hl hn c1 c2⟩

/-- Settles O31: the lanes of a normalised blend are in range, and `colourMeaningful` asks for no flag. -/
theorem normalisedColorsAreMeaningful : Obligations.NormalisedColorsAreMeaningful := by
  refine ⟨fun c1 c2 w1 w2 sh s hn => ⟨colourMeaningful_mixr_of_normalised hn c1 c2 s, fun hl =>
    colourMeaningful_mixg_of_normalised hl hn c1 c2⟩, fun i s r hr hflag => Bool.eq_false_iff.mpr fun hm => ?_⟩
  obtain ⟨hill, huninit, hovf, -⟩ := colourMeaningful_iff.mp hm
  obtain rfl : s.arch.answer i = r := Option.some.inj ((responseOf_eq i s).symm.trans hr)
  simp [hill, huninit, hovf] at hflag

/-! ### Every request is answered -/

/-- There is no fault (60_exceptions.md R110), so a step answers a next state unless the host broke its duty (30_encoding.md R68). -/
theorem step_next_or_breach (s : State) :
    (∃ t, step s = .next t) ∨ ∃ f, s.ports.rst = false ∧ s.breach? = some f := by
  cases h : step s with
  | next t => exact .inl ⟨t, rfl⟩
  | fault f => exact nomatch f
  | refused f => exact .inr ⟨f, edgeKind_breach.mp (step_refused.mp h)⟩

/-- Settles O44: a step stops at a breach only, and `exec_eq` names the response each operation holds. -/
theorem everyRequestIsAnswered : Obligations.EveryRequestIsAnswered := by
  refine ⟨fun s h => ?_, fun _ f => (nomatch f), fun i s => ⟨_, _, exec_eq i s, rfl⟩⟩
  obtain hnext | ⟨f, hrst, hbreach⟩ := step_next_or_breach s
  · exact hnext
  · simp [hrst, hbreach] at h

end Sys2Proof.Machine
end

section
/-! The statements about reset and hazards (70_reset_and_hazards.md): what a reset edge leaves (R130, R132), results that do not depend on
timing (R136), and the edge at which a response becomes valid (R140, R141). -/

namespace Sys2Proof.Machine

/-! ### The edges of a latency -/

/-- The ports at the edge `k` edges ahead, past the end of the script too (log entry 6). -/
theorem headD_drop {α : Type} (l : List α) (k : Nat) (a : α) : (l.drop k).headD a = l.getD k a := by
  rw [List.headD_eq_head?_getD, List.head?_drop, List.getD_eq_getElem?_getD]

/-- When `rsp_valid` is 0 (30_encoding.md R70, 70_reset_and_hazards.md R130). -/
theorem outputs_rspValid_eq_false {s : State} :
    s.outputs.rspValid = false ↔ s.ports.rst = true ∨ ∀ r, s.iface ≠ .responding r := by
  rw [Bool.eq_false_iff, ne_eq, outputs_rspValid, not_and_or, not_exists, Bool.not_eq_false]

/-- At an edge of its latency a block whose host holds what it shows goes on, or shows its response if the edge is the last of them
(70_reset_and_hazards.md R140). -/
theorem step_within_latency (s : State) {i : Instr} (r : Response) {d j : Nat} {p q : Option ReqWord} (n : Nat) {l : List PortIn}
    (hj : j < latency i d) (hp : p = none ∨ p = q) (hr : (l.headD quietEdge).rst = false) (hq : shownRequest (l.headD quietEdge) = q) :
    step (s.onPorts (busyInterface i r d j) p n l) = .next (s.onPorts (busyInterface i r d (j + 1)) q (n + 1) l.tail) := by
  subst hq
  have hrst (x : Interface) : (s.onPorts x p n l).ports.rst = false := hr
  have hbreach (x : Interface) : (s.onPorts x p n l).breach? = none := breach_none hp
  unfold busyInterface
  rw [if_pos hj]
  obtain hnext | hlast := Nat.lt_or_eq_of_le (Nat.succ_le_of_lt hj)
  · rw [if_pos hnext, step, edgeKind_work.mpr ⟨hrst _, hbreach _, rfl, hnext⟩]
    rfl
  · rw [if_neg hlast.not_lt, step, edgeKind_complete.mpr ⟨hrst _, hbreach _, i, d, j, rfl, hlast.ge⟩]
    rfl

/-- Until the latency has passed only the interface state, the request outstanding, the edge number and the script change: each as the
number of edges says (70_reset_and_hazards.md R140). -/
theorem run_within_latency {s : State} {i : Instr} {r : Response} {d : Nat} {shown : Option ReqWord} (hi : s.iface = .executing i r d 0)
    (hp : s.presented = none ∨ s.presented = shown)
    (hhost : ∀ k, k < latency i d → (s.script.getD k quietEdge).rst = false ∧ shownRequest (s.script.getD k quietEdge) = shown)
    {k : Nat} (hk : k ≤ latency i d) :
    ∃ p, (p = none ∨ p = shown) ∧ run k s = .next (s.onPorts (busyInterface i r d k) p (s.edge + k) (s.script.drop k)) := by
  induction k with
  | zero =>
    refine ⟨s.presented, hp, congrArg Host.Outcome.next ?_⟩
    rw [busyInterface, if_pos (latency_pos i d), ← hi]
    rfl
  | succ k ih =>
    obtain ⟨p, hheld, hrun⟩ := ih (Nat.le_of_succ_le hk)
    obtain ⟨hr, hshown⟩ := hhost k hk
    rw [← headD_drop] at hr hshown
    refine ⟨shown, .inr rfl, (run_succ hrun).trans ?_⟩
    rw [step_within_latency s r _ hk hheld hr hshown, List.tail_drop]
    rfl

/-- Settles O51: by `run_within_latency` (an induction on the edges) the block is executing before the latency has passed, and responding
when it has. -/
theorem responseBecomesValidAfterItsLatency : Obligations.ResponseBecomesValidAfterItsLatency := by
  intro s i r d shown hi hp hhost
  refine ⟨latency_pos i d, fun k hk => ?_, ?_⟩
  · obtain ⟨p, -, hrun⟩ := run_within_latency hi hp hhost hk.le
    have hexecuting : busyInterface i r d k = .executing i r d k := if_pos hk
    exact ⟨_, hrun, outputs_rspValid_eq_false.mpr (.inr fun q hq => nomatch hexecuting.symm.trans hq)⟩
  · obtain ⟨p, -, hrun⟩ := run_within_latency hi hp hhost le_rfl
    exact ⟨_, hrun, if_neg (Nat.lt_irrefl _), rfl, rfl⟩

/-! ### Reset -/

/-- An edge with `rst` = 1 is a reset edge, whatever the state (70_reset_and_hazards.md R130). -/
theorem step_of_rst {s : State} (h : s.ports.rst = true) : step s = .next s.resetEdge := by
  rw [step, edgeKind_reset.mpr h]

/-- Settles O36: `State.resetEdge` is idle with nothing outstanding, so without a further reset it accepts what is presented. -/
theorem resetEdgeClearsTheBlock : Obligations.ResetEdgeClearsTheBlock := by
  intro s h
  refine ⟨by simp [outputs_reqReady, h], outputs_rspValid_eq_false.mpr (.inl h), s.resetEdge, step_of_rst h,
    fun a => ⟨readEntry_zeroTable a, readEntry_zeroTable a⟩, rfl, rfl, rfl, fun hr => ?_⟩
  refine ⟨outputs_reqReady_iff.mpr ⟨rfl, hr⟩, outputs_rspValid_eq_false.mpr (.inr nofun), fun hv => ?_⟩
  obtain ⟨u, hu, -, hiface, -⟩ := step_accept (edgeKind_of_request rfl hr hv (.inl rfl))
  exact ⟨u, _, hu, hiface⟩

/-- Settles O37: a reset edge comes before anything the busy block would do, and records no response. -/
theorem resetAbandonsTheOperation : Obligations.ResetAbandonsTheOperation :=
  fun s _ h => ⟨s.resetEdge, step_of_rst h, cleared_iff.mpr rfl, rfl, rfl⟩

/-! ### Timing -/

/-- The effect and the response of an operation are those of the architectural state (41_blend.md R92, 60_exceptions.md R121). -/
theorem exec_arch_response (i : Instr) (s : State) :
    ∃ t, exec i s = .next t ∧ t.arch = s.arch.after i ∧ t.iface.response? = some (s.arch.answer i) :=
  ⟨_, exec_eq i s, rfl, rfl⟩

/-- Settles O50: by `exec_arch_response` both are functions of the equal architectural states. -/
theorem resultsDoNotDependOnTiming : Obligations.ResultsDoNotDependOnTiming := by
  intro i s u h
  obtain ⟨t, ht, htarch, htrsp⟩ := exec_arch_response i s
  obtain ⟨v, hv, hvarch, hvrsp⟩ := exec_arch_response i u
  rw [← h] at hvarch hvrsp
  exact ⟨t, v, s.arch.answer i, ht, hv, htarch.trans hvarch.symm, htrsp, hvrsp⟩

end Sys2Proof.Machine
end
